-- ==== Sys2Proof/Word.lean ====
section
/-! DEFINITION. The word types of the machine (spec/00_scope.md R8) and the four stored bits of F (spec/10_state.md R34). -/

namespace Sys2Proof

/-- A data byte (R8). -/
abbrev Byte := BitVec 8

/-- A register pair, an address, PC or SP (R8). -/
abbrev Word := BitVec 16

/-- The stored bits of the flag register F: bits 7, 6, 5 and 4 are Z, N, H and C, and bits 3:0 are always zero
(R34, R35), so the four flags are the whole register. `Flags.toByte` in Machine/Bits.lean is its byte. -/
structure Flags where
  z : Bool
  n : Bool
  h : Bool
  c : Bool
  deriving DecidableEq, Repr

end Sys2Proof
end

