-- ==== Sys2Proof/Syntax.lean ====
section
/-! DEFINITION. The instructions: one constructor per row of spec/opcode_table.json, those with an operand first (the compiler numbers no constructor with a field past 244), each part in the table's order, and the operand names the
encoding fields select (spec/30_encoding.md R104-R109). In a constructor's name `at` marks an operand in parentheses:
`ld_atHL_b` is LD (HL),B, `ld_a_atHLI` is LD A,(HL+), `ld_atHLD_a` is LD (HL-),A. -/

namespace Sys2Proof

/-- The registers the field `r` names (R104). -/
inductive Reg8 where
  | b | c | d | e | h | l | a
  deriving DecidableEq, Repr

/-- The operand the field `r` names (R104): a register, or the memory byte at HL. -/
inductive Loc where
  | reg (r : Reg8)
  | atHL
  deriving DecidableEq, Repr

/-- The pair field `rp` (R105). -/
inductive Pair where
  | bc | de | hl | sp
  deriving DecidableEq, Repr

/-- The pair field `rp2` of PUSH and POP (R106). -/
inductive StackPair where
  | bc | de | hl | af
  deriving DecidableEq, Repr

/-- The condition field `cc` (R107). -/
inductive Cond where
  | nz | z | nc | c
  deriving DecidableEq, Repr

/-- The operation field `alu` (R108). -/
inductive AluOp where
  | add | adc | sub | sbc | and | xor | or | cp
  deriving DecidableEq, Repr

/-- The rotate and shift field of the CB map (R109). -/
inductive RotOp where
  | rlc | rrc | rl | rr | sla | sra | swap | srl
  deriving DecidableEq, Repr

/-- The eleven illegal opcodes (R117). -/
inductive IllegalByte where
  | d3 | db | dd | e3 | e4 | eb | ec | ed | f4 | fc | fd
  deriving DecidableEq, Repr

/-- An instruction: one constructor per row of the opcode table. `n` is an 8-bit immediate, `nn` a 16-bit one, `e` the raw byte of
a signed displacement (R110), and `x` the byte STOP ignores (R118). -/
inductive Instr where
  | ld_bc_nn (nn : Word)  -- LD BC,nn, 01
  | ld_b_n (n : Byte)  -- LD B,n, 06
  | ld_atNN_sp (nn : Word)  -- LD (nn),SP, 08
  | ld_c_n (n : Byte)  -- LD C,n, 0E
  | stop (x : Byte)  -- STOP, 10
  | ld_de_nn (nn : Word)  -- LD DE,nn, 11
  | ld_d_n (n : Byte)  -- LD D,n, 16
  | jr_e (e : Byte)  -- JR e, 18
  | ld_e_n (n : Byte)  -- LD E,n, 1E
  | jr_nz_e (e : Byte)  -- JR NZ,e, 20
  | ld_hl_nn (nn : Word)  -- LD HL,nn, 21
  | ld_h_n (n : Byte)  -- LD H,n, 26
  | jr_z_e (e : Byte)  -- JR Z,e, 28
  | ld_l_n (n : Byte)  -- LD L,n, 2E
  | jr_nc_e (e : Byte)  -- JR NC,e, 30
  | ld_sp_nn (nn : Word)  -- LD SP,nn, 31
  | ld_atHL_n (n : Byte)  -- LD (HL),n, 36
  | jr_c_e (e : Byte)  -- JR C,e, 38
  | ld_a_n (n : Byte)  -- LD A,n, 3E
  | jp_nz_nn (nn : Word)  -- JP NZ,nn, C2
  | jp_nn (nn : Word)  -- JP nn, C3
  | call_nz_nn (nn : Word)  -- CALL NZ,nn, C4
  | add_a_n (n : Byte)  -- ADD A,n, C6
  | jp_z_nn (nn : Word)  -- JP Z,nn, CA
  | call_z_nn (nn : Word)  -- CALL Z,nn, CC
  | call_nn (nn : Word)  -- CALL nn, CD
  | adc_a_n (n : Byte)  -- ADC A,n, CE
  | jp_nc_nn (nn : Word)  -- JP NC,nn, D2
  | call_nc_nn (nn : Word)  -- CALL NC,nn, D4
  | sub_n (n : Byte)  -- SUB n, D6
  | jp_c_nn (nn : Word)  -- JP C,nn, DA
  | call_c_nn (nn : Word)  -- CALL C,nn, DC
  | sbc_a_n (n : Byte)  -- SBC A,n, DE
  | ldh_atN_a (n : Byte)  -- LDH (n),A, E0
  | and_n (n : Byte)  -- AND n, E6
  | add_sp_e (e : Byte)  -- ADD SP,e, E8
  | ld_atNN_a (nn : Word)  -- LD (nn),A, EA
  | xor_n (n : Byte)  -- XOR n, EE
  | ldh_a_atN (n : Byte)  -- LDH A,(n), F0
  | or_n (n : Byte)  -- OR n, F6
  | ld_hl_sp_e (e : Byte)  -- LD HL,SP+e, F8
  | ld_a_atNN (nn : Word)  -- LD A,(nn), FA
  | cp_n (n : Byte)  -- CP n, FE
  | nop  -- NOP, 00
  | ld_atBC_a  -- LD (BC),A, 02
  | inc_bc  -- INC BC, 03
  | inc_b  -- INC B, 04
  | dec_b  -- DEC B, 05
  | rlca  -- RLCA, 07
  | add_hl_bc  -- ADD HL,BC, 09
  | ld_a_atBC  -- LD A,(BC), 0A
  | dec_bc  -- DEC BC, 0B
  | inc_c  -- INC C, 0C
  | dec_c  -- DEC C, 0D
  | rrca  -- RRCA, 0F
  | ld_atDE_a  -- LD (DE),A, 12
  | inc_de  -- INC DE, 13
  | inc_d  -- INC D, 14
  | dec_d  -- DEC D, 15
  | rla  -- RLA, 17
  | add_hl_de  -- ADD HL,DE, 19
  | ld_a_atDE  -- LD A,(DE), 1A
  | dec_de  -- DEC DE, 1B
  | inc_e  -- INC E, 1C
  | dec_e  -- DEC E, 1D
  | rra  -- RRA, 1F
  | ld_atHLI_a  -- LD (HL+),A, 22
  | inc_hl  -- INC HL, 23
  | inc_h  -- INC H, 24
  | dec_h  -- DEC H, 25
  | daa  -- DAA, 27
  | add_hl_hl  -- ADD HL,HL, 29
  | ld_a_atHLI  -- LD A,(HL+), 2A
  | dec_hl  -- DEC HL, 2B
  | inc_l  -- INC L, 2C
  | dec_l  -- DEC L, 2D
  | cpl  -- CPL, 2F
  | ld_atHLD_a  -- LD (HL-),A, 32
  | inc_sp  -- INC SP, 33
  | inc_atHL  -- INC (HL), 34
  | dec_atHL  -- DEC (HL), 35
  | scf  -- SCF, 37
  | add_hl_sp  -- ADD HL,SP, 39
  | ld_a_atHLD  -- LD A,(HL-), 3A
  | dec_sp  -- DEC SP, 3B
  | inc_a  -- INC A, 3C
  | dec_a  -- DEC A, 3D
  | ccf  -- CCF, 3F
  | ld_b_b  -- LD B,B, 40
  | ld_b_c  -- LD B,C, 41
  | ld_b_d  -- LD B,D, 42
  | ld_b_e  -- LD B,E, 43
  | ld_b_h  -- LD B,H, 44
  | ld_b_l  -- LD B,L, 45
  | ld_b_atHL  -- LD B,(HL), 46
  | ld_b_a  -- LD B,A, 47
  | ld_c_b  -- LD C,B, 48
  | ld_c_c  -- LD C,C, 49
  | ld_c_d  -- LD C,D, 4A
  | ld_c_e  -- LD C,E, 4B
  | ld_c_h  -- LD C,H, 4C
  | ld_c_l  -- LD C,L, 4D
  | ld_c_atHL  -- LD C,(HL), 4E
  | ld_c_a  -- LD C,A, 4F
  | ld_d_b  -- LD D,B, 50
  | ld_d_c  -- LD D,C, 51
  | ld_d_d  -- LD D,D, 52
  | ld_d_e  -- LD D,E, 53
  | ld_d_h  -- LD D,H, 54
  | ld_d_l  -- LD D,L, 55
  | ld_d_atHL  -- LD D,(HL), 56
  | ld_d_a  -- LD D,A, 57
  | ld_e_b  -- LD E,B, 58
  | ld_e_c  -- LD E,C, 59
  | ld_e_d  -- LD E,D, 5A
  | ld_e_e  -- LD E,E, 5B
  | ld_e_h  -- LD E,H, 5C
  | ld_e_l  -- LD E,L, 5D
  | ld_e_atHL  -- LD E,(HL), 5E
  | ld_e_a  -- LD E,A, 5F
  | ld_h_b  -- LD H,B, 60
  | ld_h_c  -- LD H,C, 61
  | ld_h_d  -- LD H,D, 62
  | ld_h_e  -- LD H,E, 63
  | ld_h_h  -- LD H,H, 64
  | ld_h_l  -- LD H,L, 65
  | ld_h_atHL  -- LD H,(HL), 66
  | ld_h_a  -- LD H,A, 67
  | ld_l_b  -- LD L,B, 68
  | ld_l_c  -- LD L,C, 69
  | ld_l_d  -- LD L,D, 6A
  | ld_l_e  -- LD L,E, 6B
  | ld_l_h  -- LD L,H, 6C
  | ld_l_l  -- LD L,L, 6D
  | ld_l_atHL  -- LD L,(HL), 6E
  | ld_l_a  -- LD L,A, 6F
  | ld_atHL_b  -- LD (HL),B, 70
  | ld_atHL_c  -- LD (HL),C, 71
  | ld_atHL_d  -- LD (HL),D, 72
  | ld_atHL_e  -- LD (HL),E, 73
  | ld_atHL_h  -- LD (HL),H, 74
  | ld_atHL_l  -- LD (HL),L, 75
  | halt  -- HALT, 76
  | ld_atHL_a  -- LD (HL),A, 77
  | ld_a_b  -- LD A,B, 78
  | ld_a_c  -- LD A,C, 79
  | ld_a_d  -- LD A,D, 7A
  | ld_a_e  -- LD A,E, 7B
  | ld_a_h  -- LD A,H, 7C
  | ld_a_l  -- LD A,L, 7D
  | ld_a_atHL  -- LD A,(HL), 7E
  | ld_a_a  -- LD A,A, 7F
  | add_a_b  -- ADD A,B, 80
  | add_a_c  -- ADD A,C, 81
  | add_a_d  -- ADD A,D, 82
  | add_a_e  -- ADD A,E, 83
  | add_a_h  -- ADD A,H, 84
  | add_a_l  -- ADD A,L, 85
  | add_a_atHL  -- ADD A,(HL), 86
  | add_a_a  -- ADD A,A, 87
  | adc_a_b  -- ADC A,B, 88
  | adc_a_c  -- ADC A,C, 89
  | adc_a_d  -- ADC A,D, 8A
  | adc_a_e  -- ADC A,E, 8B
  | adc_a_h  -- ADC A,H, 8C
  | adc_a_l  -- ADC A,L, 8D
  | adc_a_atHL  -- ADC A,(HL), 8E
  | adc_a_a  -- ADC A,A, 8F
  | sub_b  -- SUB B, 90
  | sub_c  -- SUB C, 91
  | sub_d  -- SUB D, 92
  | sub_e  -- SUB E, 93
  | sub_h  -- SUB H, 94
  | sub_l  -- SUB L, 95
  | sub_atHL  -- SUB (HL), 96
  | sub_a  -- SUB A, 97
  | sbc_a_b  -- SBC A,B, 98
  | sbc_a_c  -- SBC A,C, 99
  | sbc_a_d  -- SBC A,D, 9A
  | sbc_a_e  -- SBC A,E, 9B
  | sbc_a_h  -- SBC A,H, 9C
  | sbc_a_l  -- SBC A,L, 9D
  | sbc_a_atHL  -- SBC A,(HL), 9E
  | sbc_a_a  -- SBC A,A, 9F
  | and_b  -- AND B, A0
  | and_c  -- AND C, A1
  | and_d  -- AND D, A2
  | and_e  -- AND E, A3
  | and_h  -- AND H, A4
  | and_l  -- AND L, A5
  | and_atHL  -- AND (HL), A6
  | and_a  -- AND A, A7
  | xor_b  -- XOR B, A8
  | xor_c  -- XOR C, A9
  | xor_d  -- XOR D, AA
  | xor_e  -- XOR E, AB
  | xor_h  -- XOR H, AC
  | xor_l  -- XOR L, AD
  | xor_atHL  -- XOR (HL), AE
  | xor_a  -- XOR A, AF
  | or_b  -- OR B, B0
  | or_c  -- OR C, B1
  | or_d  -- OR D, B2
  | or_e  -- OR E, B3
  | or_h  -- OR H, B4
  | or_l  -- OR L, B5
  | or_atHL  -- OR (HL), B6
  | or_a  -- OR A, B7
  | cp_b  -- CP B, B8
  | cp_c  -- CP C, B9
  | cp_d  -- CP D, BA
  | cp_e  -- CP E, BB
  | cp_h  -- CP H, BC
  | cp_l  -- CP L, BD
  | cp_atHL  -- CP (HL), BE
  | cp_a  -- CP A, BF
  | ret_nz  -- RET NZ, C0
  | pop_bc  -- POP BC, C1
  | push_bc  -- PUSH BC, C5
  | rst_00h  -- RST 00H, C7
  | ret_z  -- RET Z, C8
  | ret  -- RET, C9
  | rst_08h  -- RST 08H, CF
  | ret_nc  -- RET NC, D0
  | pop_de  -- POP DE, D1
  | illegal_d3  -- ILLEGAL_D3, D3
  | push_de  -- PUSH DE, D5
  | rst_10h  -- RST 10H, D7
  | ret_c  -- RET C, D8
  | reti  -- RETI, D9
  | illegal_db  -- ILLEGAL_DB, DB
  | illegal_dd  -- ILLEGAL_DD, DD
  | rst_18h  -- RST 18H, DF
  | pop_hl  -- POP HL, E1
  | ld_atC_a  -- LD (C),A, E2
  | illegal_e3  -- ILLEGAL_E3, E3
  | illegal_e4  -- ILLEGAL_E4, E4
  | push_hl  -- PUSH HL, E5
  | rst_20h  -- RST 20H, E7
  | jp_hl  -- JP HL, E9
  | illegal_eb  -- ILLEGAL_EB, EB
  | illegal_ec  -- ILLEGAL_EC, EC
  | illegal_ed  -- ILLEGAL_ED, ED
  | rst_28h  -- RST 28H, EF
  | pop_af  -- POP AF, F1
  | ld_a_atC  -- LD A,(C), F2
  | di  -- DI, F3
  | illegal_f4  -- ILLEGAL_F4, F4
  | push_af  -- PUSH AF, F5
  | rst_30h  -- RST 30H, F7
  | ld_sp_hl  -- LD SP,HL, F9
  | ei  -- EI, FB
  | illegal_fc  -- ILLEGAL_FC, FC
  | illegal_fd  -- ILLEGAL_FD, FD
  | rst_38h  -- RST 38H, FF
  | rlc_b  -- RLC B, CB 00
  | rlc_c  -- RLC C, CB 01
  | rlc_d  -- RLC D, CB 02
  | rlc_e  -- RLC E, CB 03
  | rlc_h  -- RLC H, CB 04
  | rlc_l  -- RLC L, CB 05
  | rlc_atHL  -- RLC (HL), CB 06
  | rlc_a  -- RLC A, CB 07
  | rrc_b  -- RRC B, CB 08
  | rrc_c  -- RRC C, CB 09
  | rrc_d  -- RRC D, CB 0A
  | rrc_e  -- RRC E, CB 0B
  | rrc_h  -- RRC H, CB 0C
  | rrc_l  -- RRC L, CB 0D
  | rrc_atHL  -- RRC (HL), CB 0E
  | rrc_a  -- RRC A, CB 0F
  | rl_b  -- RL B, CB 10
  | rl_c  -- RL C, CB 11
  | rl_d  -- RL D, CB 12
  | rl_e  -- RL E, CB 13
  | rl_h  -- RL H, CB 14
  | rl_l  -- RL L, CB 15
  | rl_atHL  -- RL (HL), CB 16
  | rl_a  -- RL A, CB 17
  | rr_b  -- RR B, CB 18
  | rr_c  -- RR C, CB 19
  | rr_d  -- RR D, CB 1A
  | rr_e  -- RR E, CB 1B
  | rr_h  -- RR H, CB 1C
  | rr_l  -- RR L, CB 1D
  | rr_atHL  -- RR (HL), CB 1E
  | rr_a  -- RR A, CB 1F
  | sla_b  -- SLA B, CB 20
  | sla_c  -- SLA C, CB 21
  | sla_d  -- SLA D, CB 22
  | sla_e  -- SLA E, CB 23
  | sla_h  -- SLA H, CB 24
  | sla_l  -- SLA L, CB 25
  | sla_atHL  -- SLA (HL), CB 26
  | sla_a  -- SLA A, CB 27
  | sra_b  -- SRA B, CB 28
  | sra_c  -- SRA C, CB 29
  | sra_d  -- SRA D, CB 2A
  | sra_e  -- SRA E, CB 2B
  | sra_h  -- SRA H, CB 2C
  | sra_l  -- SRA L, CB 2D
  | sra_atHL  -- SRA (HL), CB 2E
  | sra_a  -- SRA A, CB 2F
  | swap_b  -- SWAP B, CB 30
  | swap_c  -- SWAP C, CB 31
  | swap_d  -- SWAP D, CB 32
  | swap_e  -- SWAP E, CB 33
  | swap_h  -- SWAP H, CB 34
  | swap_l  -- SWAP L, CB 35
  | swap_atHL  -- SWAP (HL), CB 36
  | swap_a  -- SWAP A, CB 37
  | srl_b  -- SRL B, CB 38
  | srl_c  -- SRL C, CB 39
  | srl_d  -- SRL D, CB 3A
  | srl_e  -- SRL E, CB 3B
  | srl_h  -- SRL H, CB 3C
  | srl_l  -- SRL L, CB 3D
  | srl_atHL  -- SRL (HL), CB 3E
  | srl_a  -- SRL A, CB 3F
  | bit_0_b  -- BIT 0,B, CB 40
  | bit_0_c  -- BIT 0,C, CB 41
  | bit_0_d  -- BIT 0,D, CB 42
  | bit_0_e  -- BIT 0,E, CB 43
  | bit_0_h  -- BIT 0,H, CB 44
  | bit_0_l  -- BIT 0,L, CB 45
  | bit_0_atHL  -- BIT 0,(HL), CB 46
  | bit_0_a  -- BIT 0,A, CB 47
  | bit_1_b  -- BIT 1,B, CB 48
  | bit_1_c  -- BIT 1,C, CB 49
  | bit_1_d  -- BIT 1,D, CB 4A
  | bit_1_e  -- BIT 1,E, CB 4B
  | bit_1_h  -- BIT 1,H, CB 4C
  | bit_1_l  -- BIT 1,L, CB 4D
  | bit_1_atHL  -- BIT 1,(HL), CB 4E
  | bit_1_a  -- BIT 1,A, CB 4F
  | bit_2_b  -- BIT 2,B, CB 50
  | bit_2_c  -- BIT 2,C, CB 51
  | bit_2_d  -- BIT 2,D, CB 52
  | bit_2_e  -- BIT 2,E, CB 53
  | bit_2_h  -- BIT 2,H, CB 54
  | bit_2_l  -- BIT 2,L, CB 55
  | bit_2_atHL  -- BIT 2,(HL), CB 56
  | bit_2_a  -- BIT 2,A, CB 57
  | bit_3_b  -- BIT 3,B, CB 58
  | bit_3_c  -- BIT 3,C, CB 59
  | bit_3_d  -- BIT 3,D, CB 5A
  | bit_3_e  -- BIT 3,E, CB 5B
  | bit_3_h  -- BIT 3,H, CB 5C
  | bit_3_l  -- BIT 3,L, CB 5D
  | bit_3_atHL  -- BIT 3,(HL), CB 5E
  | bit_3_a  -- BIT 3,A, CB 5F
  | bit_4_b  -- BIT 4,B, CB 60
  | bit_4_c  -- BIT 4,C, CB 61
  | bit_4_d  -- BIT 4,D, CB 62
  | bit_4_e  -- BIT 4,E, CB 63
  | bit_4_h  -- BIT 4,H, CB 64
  | bit_4_l  -- BIT 4,L, CB 65
  | bit_4_atHL  -- BIT 4,(HL), CB 66
  | bit_4_a  -- BIT 4,A, CB 67
  | bit_5_b  -- BIT 5,B, CB 68
  | bit_5_c  -- BIT 5,C, CB 69
  | bit_5_d  -- BIT 5,D, CB 6A
  | bit_5_e  -- BIT 5,E, CB 6B
  | bit_5_h  -- BIT 5,H, CB 6C
  | bit_5_l  -- BIT 5,L, CB 6D
  | bit_5_atHL  -- BIT 5,(HL), CB 6E
  | bit_5_a  -- BIT 5,A, CB 6F
  | bit_6_b  -- BIT 6,B, CB 70
  | bit_6_c  -- BIT 6,C, CB 71
  | bit_6_d  -- BIT 6,D, CB 72
  | bit_6_e  -- BIT 6,E, CB 73
  | bit_6_h  -- BIT 6,H, CB 74
  | bit_6_l  -- BIT 6,L, CB 75
  | bit_6_atHL  -- BIT 6,(HL), CB 76
  | bit_6_a  -- BIT 6,A, CB 77
  | bit_7_b  -- BIT 7,B, CB 78
  | bit_7_c  -- BIT 7,C, CB 79
  | bit_7_d  -- BIT 7,D, CB 7A
  | bit_7_e  -- BIT 7,E, CB 7B
  | bit_7_h  -- BIT 7,H, CB 7C
  | bit_7_l  -- BIT 7,L, CB 7D
  | bit_7_atHL  -- BIT 7,(HL), CB 7E
  | bit_7_a  -- BIT 7,A, CB 7F
  | res_0_b  -- RES 0,B, CB 80
  | res_0_c  -- RES 0,C, CB 81
  | res_0_d  -- RES 0,D, CB 82
  | res_0_e  -- RES 0,E, CB 83
  | res_0_h  -- RES 0,H, CB 84
  | res_0_l  -- RES 0,L, CB 85
  | res_0_atHL  -- RES 0,(HL), CB 86
  | res_0_a  -- RES 0,A, CB 87
  | res_1_b  -- RES 1,B, CB 88
  | res_1_c  -- RES 1,C, CB 89
  | res_1_d  -- RES 1,D, CB 8A
  | res_1_e  -- RES 1,E, CB 8B
  | res_1_h  -- RES 1,H, CB 8C
  | res_1_l  -- RES 1,L, CB 8D
  | res_1_atHL  -- RES 1,(HL), CB 8E
  | res_1_a  -- RES 1,A, CB 8F
  | res_2_b  -- RES 2,B, CB 90
  | res_2_c  -- RES 2,C, CB 91
  | res_2_d  -- RES 2,D, CB 92
  | res_2_e  -- RES 2,E, CB 93
  | res_2_h  -- RES 2,H, CB 94
  | res_2_l  -- RES 2,L, CB 95
  | res_2_atHL  -- RES 2,(HL), CB 96
  | res_2_a  -- RES 2,A, CB 97
  | res_3_b  -- RES 3,B, CB 98
  | res_3_c  -- RES 3,C, CB 99
  | res_3_d  -- RES 3,D, CB 9A
  | res_3_e  -- RES 3,E, CB 9B
  | res_3_h  -- RES 3,H, CB 9C
  | res_3_l  -- RES 3,L, CB 9D
  | res_3_atHL  -- RES 3,(HL), CB 9E
  | res_3_a  -- RES 3,A, CB 9F
  | res_4_b  -- RES 4,B, CB A0
  | res_4_c  -- RES 4,C, CB A1
  | res_4_d  -- RES 4,D, CB A2
  | res_4_e  -- RES 4,E, CB A3
  | res_4_h  -- RES 4,H, CB A4
  | res_4_l  -- RES 4,L, CB A5
  | res_4_atHL  -- RES 4,(HL), CB A6
  | res_4_a  -- RES 4,A, CB A7
  | res_5_b  -- RES 5,B, CB A8
  | res_5_c  -- RES 5,C, CB A9
  | res_5_d  -- RES 5,D, CB AA
  | res_5_e  -- RES 5,E, CB AB
  | res_5_h  -- RES 5,H, CB AC
  | res_5_l  -- RES 5,L, CB AD
  | res_5_atHL  -- RES 5,(HL), CB AE
  | res_5_a  -- RES 5,A, CB AF
  | res_6_b  -- RES 6,B, CB B0
  | res_6_c  -- RES 6,C, CB B1
  | res_6_d  -- RES 6,D, CB B2
  | res_6_e  -- RES 6,E, CB B3
  | res_6_h  -- RES 6,H, CB B4
  | res_6_l  -- RES 6,L, CB B5
  | res_6_atHL  -- RES 6,(HL), CB B6
  | res_6_a  -- RES 6,A, CB B7
  | res_7_b  -- RES 7,B, CB B8
  | res_7_c  -- RES 7,C, CB B9
  | res_7_d  -- RES 7,D, CB BA
  | res_7_e  -- RES 7,E, CB BB
  | res_7_h  -- RES 7,H, CB BC
  | res_7_l  -- RES 7,L, CB BD
  | res_7_atHL  -- RES 7,(HL), CB BE
  | res_7_a  -- RES 7,A, CB BF
  | set_0_b  -- SET 0,B, CB C0
  | set_0_c  -- SET 0,C, CB C1
  | set_0_d  -- SET 0,D, CB C2
  | set_0_e  -- SET 0,E, CB C3
  | set_0_h  -- SET 0,H, CB C4
  | set_0_l  -- SET 0,L, CB C5
  | set_0_atHL  -- SET 0,(HL), CB C6
  | set_0_a  -- SET 0,A, CB C7
  | set_1_b  -- SET 1,B, CB C8
  | set_1_c  -- SET 1,C, CB C9
  | set_1_d  -- SET 1,D, CB CA
  | set_1_e  -- SET 1,E, CB CB
  | set_1_h  -- SET 1,H, CB CC
  | set_1_l  -- SET 1,L, CB CD
  | set_1_atHL  -- SET 1,(HL), CB CE
  | set_1_a  -- SET 1,A, CB CF
  | set_2_b  -- SET 2,B, CB D0
  | set_2_c  -- SET 2,C, CB D1
  | set_2_d  -- SET 2,D, CB D2
  | set_2_e  -- SET 2,E, CB D3
  | set_2_h  -- SET 2,H, CB D4
  | set_2_l  -- SET 2,L, CB D5
  | set_2_atHL  -- SET 2,(HL), CB D6
  | set_2_a  -- SET 2,A, CB D7
  | set_3_b  -- SET 3,B, CB D8
  | set_3_c  -- SET 3,C, CB D9
  | set_3_d  -- SET 3,D, CB DA
  | set_3_e  -- SET 3,E, CB DB
  | set_3_h  -- SET 3,H, CB DC
  | set_3_l  -- SET 3,L, CB DD
  | set_3_atHL  -- SET 3,(HL), CB DE
  | set_3_a  -- SET 3,A, CB DF
  | set_4_b  -- SET 4,B, CB E0
  | set_4_c  -- SET 4,C, CB E1
  | set_4_d  -- SET 4,D, CB E2
  | set_4_e  -- SET 4,E, CB E3
  | set_4_h  -- SET 4,H, CB E4
  | set_4_l  -- SET 4,L, CB E5
  | set_4_atHL  -- SET 4,(HL), CB E6
  | set_4_a  -- SET 4,A, CB E7
  | set_5_b  -- SET 5,B, CB E8
  | set_5_c  -- SET 5,C, CB E9
  | set_5_d  -- SET 5,D, CB EA
  | set_5_e  -- SET 5,E, CB EB
  | set_5_h  -- SET 5,H, CB EC
  | set_5_l  -- SET 5,L, CB ED
  | set_5_atHL  -- SET 5,(HL), CB EE
  | set_5_a  -- SET 5,A, CB EF
  | set_6_b  -- SET 6,B, CB F0
  | set_6_c  -- SET 6,C, CB F1
  | set_6_d  -- SET 6,D, CB F2
  | set_6_e  -- SET 6,E, CB F3
  | set_6_h  -- SET 6,H, CB F4
  | set_6_l  -- SET 6,L, CB F5
  | set_6_atHL  -- SET 6,(HL), CB F6
  | set_6_a  -- SET 6,A, CB F7
  | set_7_b  -- SET 7,B, CB F8
  | set_7_c  -- SET 7,C, CB F9
  | set_7_d  -- SET 7,D, CB FA
  | set_7_e  -- SET 7,E, CB FB
  | set_7_h  -- SET 7,H, CB FC
  | set_7_l  -- SET 7,L, CB FD
  | set_7_atHL  -- SET 7,(HL), CB FE
  | set_7_a  -- SET 7,A, CB FF
  deriving DecidableEq, Repr

end Sys2Proof
end

