-- ==== Sys2Proof/Machine/Bits.lean ====
section
/-! DEFINITION. Byte order, extension and bit-field helpers (spec/00_scope.md R10-R12, spec/10_state.md R31, R34, R35, spec/30_encoding.md R103). -/

namespace Sys2Proof

/-- `v[7:0]` of a 16-bit value (R10). -/
def loByte (w : Word) : Byte := w.extractLsb' 0 8

/-- `v[15:8]` of a 16-bit value (R10). -/
def hiByte (w : Word) : Byte := w.extractLsb' 8 8

/-- `hi : lo` (R11). -/
def joinBytes (hi lo : Byte) : Word := hi ++ lo

/-- `sext_16` (R12): the byte read as two's complement, widened to 16 bits. -/
def sext16 (v : Byte) : Word := v.signExtend 16

/-- `zext_16` (R12). -/
def zext16 (v : Byte) : Word := v.setWidth 16

/-- The byte `x[F]` reads as (R34, R35): Z N H C in bits 7 to 4, bits 3:0 zero. -/
def Flags.toByte (f : Flags) : Byte :=
  BitVec.ofBool f.z ++ BitVec.ofBool f.n ++ BitVec.ofBool f.h ++ BitVec.ofBool f.c ++ 0#4

/-- What a write of `v` to F stores (R35): `v & 0xF0`, that is bits 7, 6, 5 and 4. -/
def Flags.ofByte (v : Byte) : Flags where
  z := v.getLsbD 7
  n := v.getLsbD 6
  h := v.getLsbD 5
  c := v.getLsbD 4

/-- The fields `x = op[7:6]`, `y = op[5:3]`, `z = op[2:0]`, `p = op[5:4]`, `q = op[3]` of an opcode byte (R103). -/
def fieldX (op : Byte) : Fin 4 := ⟨op.toNat / 64 % 4, Nat.mod_lt _ (by decide)⟩
def fieldY (op : Byte) : Fin 8 := ⟨op.toNat / 8 % 8, Nat.mod_lt _ (by decide)⟩
def fieldZ (op : Byte) : Fin 8 := ⟨op.toNat % 8, Nat.mod_lt _ (by decide)⟩
def fieldP (op : Byte) : Fin 4 := ⟨op.toNat / 16 % 4, Nat.mod_lt _ (by decide)⟩
def fieldQ (op : Byte) : Fin 2 := ⟨op.toNat / 8 % 2, Nat.mod_lt _ (by decide)⟩

/-- The condition field `cc = op[4:3]` (R107). -/
def fieldCC (op : Byte) : Fin 4 := ⟨op.toNat / 8 % 4, Nat.mod_lt _ (by decide)⟩

/-- The length in bytes of the instruction whose first byte is `op` (R100, R111, R119), by the blocks of R112-R115. -/
def instrLength (op : Byte) : Nat :=
  match fieldX op with
  | 0 =>
    match fieldZ op with
    | 0 => match fieldY op with
      | 0 => 1  -- NOP
      | 1 => 3  -- LD (nn),SP
      | _ => 2  -- STOP, JR e, JR cc,e
    | 1 => match fieldQ op with
      | 0 => 3  -- LD rp,nn
      | _ => 1
    | 6 => 2    -- LD r,n
    | _ => 1
  | 1 => 1
  | 2 => 1
  | _ =>
    match fieldZ op with
    | 0 => match fieldY op with
      | 0 => 1 | 1 => 1 | 2 => 1 | 3 => 1  -- RET cc
      | _ => 2  -- LDH (n),A; ADD SP,e; LDH A,(n); LD HL,SP+e
    | 2 => match fieldY op with
      | 4 => 1  -- LD (C),A
      | 6 => 1  -- LD A,(C)
      | _ => 3  -- JP cc,nn; LD (nn),A; LD A,(nn)
    | 3 => match fieldY op with
      | 0 => 3  -- JP nn
      | 1 => 2  -- the CB map
      | _ => 1
    | 4 => match fieldY op with
      | 0 => 3 | 1 => 3 | 2 => 3 | 3 => 3  -- CALL cc,nn
      | _ => 1
    | 5 => match fieldY op with
      | 1 => 3  -- CALL nn
      | _ => 1
    | 6 => 2    -- alu A,n
    | _ => 1

end Sys2Proof
end

