-- ==== Sys2Proof/Machine/Flags.lean ====
section
/-! DEFINITION. Results and flags of the arithmetic: the helpers of spec/00_scope.md R17, the shared operations of spec/41_alu8.md R181 and the
accumulator operations, 16-bit additions (spec/42_alu16.md) and shift functions (spec/43_rotate_bit.md R244). -/

namespace Sys2Proof.Machine

/-- The helpers of R17, on unbounded integers. -/
def hcAdd8 (a b : Byte) (cin : Bool) : Bool := decide (a.toNat % 16 + b.toNat % 16 + cin.toNat > 0xF)
def cAdd8 (a b : Byte) (cin : Bool) : Bool := decide (a.toNat + b.toNat + cin.toNat > 0xFF)
def hcSub8 (a b : Byte) (cin : Bool) : Bool := decide (a.toNat % 16 < b.toNat % 16 + cin.toNat)
def cSub8 (a b : Byte) (cin : Bool) : Bool := decide (a.toNat < b.toNat + cin.toNat)
def hcAdd16 (a b : Word) : Bool := decide (a.toNat % 4096 + b.toNat % 4096 > 0xFFF)
def cAdd16 (a b : Word) : Bool := decide (a.toNat + b.toNat > 0xFFFF)

/-- A carry as a byte. -/
def carryByte (cin : Bool) : Byte := BitVec.ofNat 8 cin.toNat

/-- `ADD8` (R181). -/
def add8 (a b : Byte) (cin : Bool) : Byte × Flags :=
  let res := a + b + carryByte cin
  (res, { z := res == 0, n := false, h := hcAdd8 a b cin, c := cAdd8 a b cin })

/-- `SUB8` (R181). -/
def sub8 (a b : Byte) (cin : Bool) : Byte × Flags :=
  let res := a - b - carryByte cin
  (res, { z := res == 0, n := true, h := hcSub8 a b cin, c := cSub8 a b cin })

/-- AND (R194). -/
def and8 (a b : Byte) : Byte × Flags := (a &&& b, { z := (a &&& b) == 0, n := false, h := true, c := false })

/-- XOR (R197). -/
def xor8 (a b : Byte) : Byte × Flags := (a ^^^ b, { z := (a ^^^ b) == 0, n := false, h := false, c := false })

/-- OR (R200). -/
def or8 (a b : Byte) : Byte × Flags := (a ||| b, { z := (a ||| b) == 0, n := false, h := false, c := false })

/-- What an ALU operation leaves in A and F, from A, the operand and the old C (R182-R205); CP leaves A as it was (R203). -/
def aluResult (op : AluOp) (a b : Byte) (cin : Bool) : Byte × Flags :=
  match op with
  | .add => add8 a b false
  | .adc => add8 a b cin
  | .sub => sub8 a b false
  | .sbc => sub8 a b cin
  | .and => and8 a b
  | .xor => xor8 a b
  | .or => or8 a b
  | .cp => (a, (sub8 a b false).2)

/-- INC of a byte (R206): C is kept. -/
def inc8 (v : Byte) (f : Flags) : Byte × Flags :=
  (v + 1, { z := v + 1 == 0, n := false, h := hcAdd8 v 1 false, c := f.c })

/-- DEC of a byte (R208): C is kept. -/
def dec8 (v : Byte) (f : Flags) : Byte × Flags :=
  (v - 1, { z := v - 1 == 0, n := true, h := hcSub8 v 1 false, c := f.c })

/-- DAA (R210): the 0x60 and the 0x06 correction are both decided by A, N, H and C as they were. -/
def daa8 (a : Byte) (f : Flags) : Byte × Flags :=
  let high := f.c || (!f.n && decide (a.toNat > 0x99))
  let low := f.h || (!f.n && decide (a.toNat % 16 > 0x09))
  let fix : Byte := (if high then 0x60 else 0) + (if low then 0x06 else 0)
  let res := if f.n then a - fix else a + fix
  (res, { z := res == 0, n := f.n, h := false, c := high })

/-- ADD HL,rr (R220): Z is kept, H comes from bit 11 and C from bit 15. -/
def add16 (a b : Word) (f : Flags) : Word × Flags :=
  (a + b, { z := f.z, n := false, h := hcAdd16 a b, c := cAdd16 a b })

/-- SP + e (R223, R224): the sum is 16 bits wide, the flags those of the unsigned addition of SP's low byte and the raw byte. -/
def addSigned (a : Word) (e : Byte) : Word × Flags :=
  (a + sext16 e, { z := false, n := false, h := hcAdd8 (loByte a) e false, c := cAdd8 (loByte a) e false })

/-- The shift functions (R244): the result and the carry out, from the byte and the carry in. -/
def shift8 (op : RotOp) (v : Byte) (cin : Bool) : Byte × Bool :=
  match op with
  | .rlc => ((v <<< 1) ||| carryByte (v.getLsbD 7), v.getLsbD 7)
  | .rrc => ((v >>> 1) ||| (carryByte (v.getLsbD 0) <<< 7), v.getLsbD 0)
  | .rl => ((v <<< 1) ||| carryByte cin, v.getLsbD 7)
  | .rr => ((v >>> 1) ||| (carryByte cin <<< 7), v.getLsbD 0)
  | .sla => (v <<< 1, v.getLsbD 7)
  | .sra => ((v >>> 1) ||| (v &&& 0x80), v.getLsbD 0)
  | .swap => (((v &&& 0x0F) <<< 4) ||| (v >>> 4), false)
  | .srl => (v >>> 1, v.getLsbD 0)

/-- The flags of a CB rotate, shift or SWAP (R244). -/
def shiftFlags (r : Byte × Bool) : Flags := { z := r.1 == 0, n := false, h := false, c := r.2 }

/-- The flags of RLCA, RRCA, RLA and RRA (R240-R243): Z is always cleared. -/
def accShiftFlags (r : Byte × Bool) : Flags := { z := false, n := false, h := false, c := r.2 }

/-- The flags of BIT (R261): Z is the complement of the tested bit, C is kept. -/
def bitFlags (v : Byte) (b : Nat) (f : Flags) : Flags := { z := !v.getLsbD b, n := false, h := true, c := f.c }

/-- `1 << b` as a byte. -/
def bitMask (b : Nat) : Byte := 1#8 <<< b

end Sys2Proof.Machine
end

