-- ==== Sys2Proof/WellFormed.lean ====
section
/-! DEFINITION. Well-formedness. Every operand of `Instr` is a bit vector of exactly the width its encoding gives it (R110, R111),
so every term of `Instr` is an instruction and needs no check. What can be ill-formed is a string of bytes: it is one
instruction when it is not empty and has the length its first byte fixes (R100, R119). -/

namespace Sys2Proof

/-- The bytes are exactly one instruction: a first byte, and as many further bytes as it asks for. -/
def wellFormedCode : List Byte → Bool
  | [] => false
  | op :: rest => rest.length + 1 == instrLength op

end Sys2Proof
end

