-- ==== Sys2Proof/Decode.lean ====
section
/-! DEFINITION. The decoder, by the fields of spec/30_encoding.md R103-R118, and the encoder, from the rows of spec/opcode_table.json. The
two are written from different parts of the spec, so their agreement is a statement and not a repetition. The functions
`Instr.<family>` name the constructor of a family by its operand. -/

namespace Sys2Proof

/-- LD r,r' (R113, R141). -/
def Instr.ldRegReg : Reg8 → Reg8 → Instr
  | .b, .b => .ld_b_b
  | .b, .c => .ld_b_c
  | .b, .d => .ld_b_d
  | .b, .e => .ld_b_e
  | .b, .h => .ld_b_h
  | .b, .l => .ld_b_l
  | .b, .a => .ld_b_a
  | .c, .b => .ld_c_b
  | .c, .c => .ld_c_c
  | .c, .d => .ld_c_d
  | .c, .e => .ld_c_e
  | .c, .h => .ld_c_h
  | .c, .l => .ld_c_l
  | .c, .a => .ld_c_a
  | .d, .b => .ld_d_b
  | .d, .c => .ld_d_c
  | .d, .d => .ld_d_d
  | .d, .e => .ld_d_e
  | .d, .h => .ld_d_h
  | .d, .l => .ld_d_l
  | .d, .a => .ld_d_a
  | .e, .b => .ld_e_b
  | .e, .c => .ld_e_c
  | .e, .d => .ld_e_d
  | .e, .e => .ld_e_e
  | .e, .h => .ld_e_h
  | .e, .l => .ld_e_l
  | .e, .a => .ld_e_a
  | .h, .b => .ld_h_b
  | .h, .c => .ld_h_c
  | .h, .d => .ld_h_d
  | .h, .e => .ld_h_e
  | .h, .h => .ld_h_h
  | .h, .l => .ld_h_l
  | .h, .a => .ld_h_a
  | .l, .b => .ld_l_b
  | .l, .c => .ld_l_c
  | .l, .d => .ld_l_d
  | .l, .e => .ld_l_e
  | .l, .h => .ld_l_h
  | .l, .l => .ld_l_l
  | .l, .a => .ld_l_a
  | .a, .b => .ld_a_b
  | .a, .c => .ld_a_c
  | .a, .d => .ld_a_d
  | .a, .e => .ld_a_e
  | .a, .h => .ld_a_h
  | .a, .l => .ld_a_l
  | .a, .a => .ld_a_a

/-- LD r,n and LD (HL),n (R112, R142, R145). -/
def Instr.ldLocImm : Loc → Byte → Instr
  | .reg .b, n => .ld_b_n n
  | .reg .c, n => .ld_c_n n
  | .reg .d, n => .ld_d_n n
  | .reg .e, n => .ld_e_n n
  | .reg .h, n => .ld_h_n n
  | .reg .l, n => .ld_l_n n
  | .atHL, n => .ld_atHL_n n
  | .reg .a, n => .ld_a_n n

/-- LD r,(HL) (R113, R143). -/
def Instr.ldRegAtHL : Reg8 → Instr
  | .b => .ld_b_atHL
  | .c => .ld_c_atHL
  | .d => .ld_d_atHL
  | .e => .ld_e_atHL
  | .h => .ld_h_atHL
  | .l => .ld_l_atHL
  | .a => .ld_a_atHL

/-- LD (HL),r (R113, R144). -/
def Instr.ldAtHLReg : Reg8 → Instr
  | .b => .ld_atHL_b
  | .c => .ld_atHL_c
  | .d => .ld_atHL_d
  | .e => .ld_atHL_e
  | .h => .ld_atHL_h
  | .l => .ld_atHL_l
  | .a => .ld_atHL_a

/-- The ALU operations on a register or (HL) (R108, R114). -/
def Instr.aluLoc : AluOp → Loc → Instr
  | .add, .reg .b => .add_a_b
  | .add, .reg .c => .add_a_c
  | .add, .reg .d => .add_a_d
  | .add, .reg .e => .add_a_e
  | .add, .reg .h => .add_a_h
  | .add, .reg .l => .add_a_l
  | .add, .atHL => .add_a_atHL
  | .add, .reg .a => .add_a_a
  | .adc, .reg .b => .adc_a_b
  | .adc, .reg .c => .adc_a_c
  | .adc, .reg .d => .adc_a_d
  | .adc, .reg .e => .adc_a_e
  | .adc, .reg .h => .adc_a_h
  | .adc, .reg .l => .adc_a_l
  | .adc, .atHL => .adc_a_atHL
  | .adc, .reg .a => .adc_a_a
  | .sub, .reg .b => .sub_b
  | .sub, .reg .c => .sub_c
  | .sub, .reg .d => .sub_d
  | .sub, .reg .e => .sub_e
  | .sub, .reg .h => .sub_h
  | .sub, .reg .l => .sub_l
  | .sub, .atHL => .sub_atHL
  | .sub, .reg .a => .sub_a
  | .sbc, .reg .b => .sbc_a_b
  | .sbc, .reg .c => .sbc_a_c
  | .sbc, .reg .d => .sbc_a_d
  | .sbc, .reg .e => .sbc_a_e
  | .sbc, .reg .h => .sbc_a_h
  | .sbc, .reg .l => .sbc_a_l
  | .sbc, .atHL => .sbc_a_atHL
  | .sbc, .reg .a => .sbc_a_a
  | .and, .reg .b => .and_b
  | .and, .reg .c => .and_c
  | .and, .reg .d => .and_d
  | .and, .reg .e => .and_e
  | .and, .reg .h => .and_h
  | .and, .reg .l => .and_l
  | .and, .atHL => .and_atHL
  | .and, .reg .a => .and_a
  | .xor, .reg .b => .xor_b
  | .xor, .reg .c => .xor_c
  | .xor, .reg .d => .xor_d
  | .xor, .reg .e => .xor_e
  | .xor, .reg .h => .xor_h
  | .xor, .reg .l => .xor_l
  | .xor, .atHL => .xor_atHL
  | .xor, .reg .a => .xor_a
  | .or, .reg .b => .or_b
  | .or, .reg .c => .or_c
  | .or, .reg .d => .or_d
  | .or, .reg .e => .or_e
  | .or, .reg .h => .or_h
  | .or, .reg .l => .or_l
  | .or, .atHL => .or_atHL
  | .or, .reg .a => .or_a
  | .cp, .reg .b => .cp_b
  | .cp, .reg .c => .cp_c
  | .cp, .reg .d => .cp_d
  | .cp, .reg .e => .cp_e
  | .cp, .reg .h => .cp_h
  | .cp, .reg .l => .cp_l
  | .cp, .atHL => .cp_atHL
  | .cp, .reg .a => .cp_a

/-- The ALU operations on an immediate (R108, R115). -/
def Instr.aluImm : AluOp → Byte → Instr
  | .add, n => .add_a_n n
  | .adc, n => .adc_a_n n
  | .sub, n => .sub_n n
  | .sbc, n => .sbc_a_n n
  | .and, n => .and_n n
  | .xor, n => .xor_n n
  | .or, n => .or_n n
  | .cp, n => .cp_n n

/-- INC r and INC (HL) (R112, R206, R207). -/
def Instr.incLoc : Loc → Instr
  | .reg .b => .inc_b
  | .reg .c => .inc_c
  | .reg .d => .inc_d
  | .reg .e => .inc_e
  | .reg .h => .inc_h
  | .reg .l => .inc_l
  | .atHL => .inc_atHL
  | .reg .a => .inc_a

/-- DEC r and DEC (HL) (R112, R208, R209). -/
def Instr.decLoc : Loc → Instr
  | .reg .b => .dec_b
  | .reg .c => .dec_c
  | .reg .d => .dec_d
  | .reg .e => .dec_e
  | .reg .h => .dec_h
  | .reg .l => .dec_l
  | .atHL => .dec_atHL
  | .reg .a => .dec_a

/-- LD rr,nn (R105, R162). -/
def Instr.ldPairImm : Pair → Word → Instr
  | .bc, nn => .ld_bc_nn nn
  | .de, nn => .ld_de_nn nn
  | .hl, nn => .ld_hl_nn nn
  | .sp, nn => .ld_sp_nn nn

/-- ADD HL,rr (R105, R220). -/
def Instr.addHLPair : Pair → Instr
  | .bc => .add_hl_bc
  | .de => .add_hl_de
  | .hl => .add_hl_hl
  | .sp => .add_hl_sp

/-- INC rr (R105, R221). -/
def Instr.incPair : Pair → Instr
  | .bc => .inc_bc
  | .de => .inc_de
  | .hl => .inc_hl
  | .sp => .inc_sp

/-- DEC rr (R105, R222). -/
def Instr.decPair : Pair → Instr
  | .bc => .dec_bc
  | .de => .dec_de
  | .hl => .dec_hl
  | .sp => .dec_sp

/-- PUSH rr (R106, R165). -/
def Instr.pushPair : StackPair → Instr
  | .bc => .push_bc
  | .de => .push_de
  | .hl => .push_hl
  | .af => .push_af

/-- POP rr (R106, R166, R167). -/
def Instr.popPair : StackPair → Instr
  | .bc => .pop_bc
  | .de => .pop_de
  | .hl => .pop_hl
  | .af => .pop_af

/-- JP cc,nn (R107, R272). -/
def Instr.jpCond : Cond → Word → Instr
  | .nz, nn => .jp_nz_nn nn
  | .z, nn => .jp_z_nn nn
  | .nc, nn => .jp_nc_nn nn
  | .c, nn => .jp_c_nn nn

/-- JR cc,e (R107, R275). -/
def Instr.jrCond : Cond → Byte → Instr
  | .nz, e => .jr_nz_e e
  | .z, e => .jr_z_e e
  | .nc, e => .jr_nc_e e
  | .c, e => .jr_c_e e

/-- CALL cc,nn (R107, R277). -/
def Instr.callCond : Cond → Word → Instr
  | .nz, nn => .call_nz_nn nn
  | .z, nn => .call_z_nn nn
  | .nc, nn => .call_nc_nn nn
  | .c, nn => .call_c_nn nn

/-- RET cc (R107, R279). -/
def Instr.retCond : Cond → Instr
  | .nz => .ret_nz
  | .z => .ret_z
  | .nc => .ret_nc
  | .c => .ret_c

/-- RST 8·y (R110, R281). -/
def Instr.rst : Fin 8 → Instr
  | 0 => .rst_00h
  | 1 => .rst_08h
  | 2 => .rst_10h
  | 3 => .rst_18h
  | 4 => .rst_20h
  | 5 => .rst_28h
  | 6 => .rst_30h
  | _ => .rst_38h

/-- The illegal opcodes (R117). -/
def Instr.illegal : IllegalByte → Instr
  | .d3 => .illegal_d3
  | .db => .illegal_db
  | .dd => .illegal_dd
  | .e3 => .illegal_e3
  | .e4 => .illegal_e4
  | .eb => .illegal_eb
  | .ec => .illegal_ec
  | .ed => .illegal_ed
  | .f4 => .illegal_f4
  | .fc => .illegal_fc
  | .fd => .illegal_fd

/-- The CB rotates, shifts and SWAP (R109, R116). -/
def Instr.rotLoc : RotOp → Loc → Instr
  | .rlc, .reg .b => .rlc_b
  | .rlc, .reg .c => .rlc_c
  | .rlc, .reg .d => .rlc_d
  | .rlc, .reg .e => .rlc_e
  | .rlc, .reg .h => .rlc_h
  | .rlc, .reg .l => .rlc_l
  | .rlc, .atHL => .rlc_atHL
  | .rlc, .reg .a => .rlc_a
  | .rrc, .reg .b => .rrc_b
  | .rrc, .reg .c => .rrc_c
  | .rrc, .reg .d => .rrc_d
  | .rrc, .reg .e => .rrc_e
  | .rrc, .reg .h => .rrc_h
  | .rrc, .reg .l => .rrc_l
  | .rrc, .atHL => .rrc_atHL
  | .rrc, .reg .a => .rrc_a
  | .rl, .reg .b => .rl_b
  | .rl, .reg .c => .rl_c
  | .rl, .reg .d => .rl_d
  | .rl, .reg .e => .rl_e
  | .rl, .reg .h => .rl_h
  | .rl, .reg .l => .rl_l
  | .rl, .atHL => .rl_atHL
  | .rl, .reg .a => .rl_a
  | .rr, .reg .b => .rr_b
  | .rr, .reg .c => .rr_c
  | .rr, .reg .d => .rr_d
  | .rr, .reg .e => .rr_e
  | .rr, .reg .h => .rr_h
  | .rr, .reg .l => .rr_l
  | .rr, .atHL => .rr_atHL
  | .rr, .reg .a => .rr_a
  | .sla, .reg .b => .sla_b
  | .sla, .reg .c => .sla_c
  | .sla, .reg .d => .sla_d
  | .sla, .reg .e => .sla_e
  | .sla, .reg .h => .sla_h
  | .sla, .reg .l => .sla_l
  | .sla, .atHL => .sla_atHL
  | .sla, .reg .a => .sla_a
  | .sra, .reg .b => .sra_b
  | .sra, .reg .c => .sra_c
  | .sra, .reg .d => .sra_d
  | .sra, .reg .e => .sra_e
  | .sra, .reg .h => .sra_h
  | .sra, .reg .l => .sra_l
  | .sra, .atHL => .sra_atHL
  | .sra, .reg .a => .sra_a
  | .swap, .reg .b => .swap_b
  | .swap, .reg .c => .swap_c
  | .swap, .reg .d => .swap_d
  | .swap, .reg .e => .swap_e
  | .swap, .reg .h => .swap_h
  | .swap, .reg .l => .swap_l
  | .swap, .atHL => .swap_atHL
  | .swap, .reg .a => .swap_a
  | .srl, .reg .b => .srl_b
  | .srl, .reg .c => .srl_c
  | .srl, .reg .d => .srl_d
  | .srl, .reg .e => .srl_e
  | .srl, .reg .h => .srl_h
  | .srl, .reg .l => .srl_l
  | .srl, .atHL => .srl_atHL
  | .srl, .reg .a => .srl_a

/-- BIT b,r and BIT b,(HL) (R116, R261, R262). -/
def Instr.bitLoc : Fin 8 → Loc → Instr
  | 0, .reg .b => .bit_0_b
  | 0, .reg .c => .bit_0_c
  | 0, .reg .d => .bit_0_d
  | 0, .reg .e => .bit_0_e
  | 0, .reg .h => .bit_0_h
  | 0, .reg .l => .bit_0_l
  | 0, .atHL => .bit_0_atHL
  | 0, .reg .a => .bit_0_a
  | 1, .reg .b => .bit_1_b
  | 1, .reg .c => .bit_1_c
  | 1, .reg .d => .bit_1_d
  | 1, .reg .e => .bit_1_e
  | 1, .reg .h => .bit_1_h
  | 1, .reg .l => .bit_1_l
  | 1, .atHL => .bit_1_atHL
  | 1, .reg .a => .bit_1_a
  | 2, .reg .b => .bit_2_b
  | 2, .reg .c => .bit_2_c
  | 2, .reg .d => .bit_2_d
  | 2, .reg .e => .bit_2_e
  | 2, .reg .h => .bit_2_h
  | 2, .reg .l => .bit_2_l
  | 2, .atHL => .bit_2_atHL
  | 2, .reg .a => .bit_2_a
  | 3, .reg .b => .bit_3_b
  | 3, .reg .c => .bit_3_c
  | 3, .reg .d => .bit_3_d
  | 3, .reg .e => .bit_3_e
  | 3, .reg .h => .bit_3_h
  | 3, .reg .l => .bit_3_l
  | 3, .atHL => .bit_3_atHL
  | 3, .reg .a => .bit_3_a
  | 4, .reg .b => .bit_4_b
  | 4, .reg .c => .bit_4_c
  | 4, .reg .d => .bit_4_d
  | 4, .reg .e => .bit_4_e
  | 4, .reg .h => .bit_4_h
  | 4, .reg .l => .bit_4_l
  | 4, .atHL => .bit_4_atHL
  | 4, .reg .a => .bit_4_a
  | 5, .reg .b => .bit_5_b
  | 5, .reg .c => .bit_5_c
  | 5, .reg .d => .bit_5_d
  | 5, .reg .e => .bit_5_e
  | 5, .reg .h => .bit_5_h
  | 5, .reg .l => .bit_5_l
  | 5, .atHL => .bit_5_atHL
  | 5, .reg .a => .bit_5_a
  | 6, .reg .b => .bit_6_b
  | 6, .reg .c => .bit_6_c
  | 6, .reg .d => .bit_6_d
  | 6, .reg .e => .bit_6_e
  | 6, .reg .h => .bit_6_h
  | 6, .reg .l => .bit_6_l
  | 6, .atHL => .bit_6_atHL
  | 6, .reg .a => .bit_6_a
  | _, .reg .b => .bit_7_b
  | _, .reg .c => .bit_7_c
  | _, .reg .d => .bit_7_d
  | _, .reg .e => .bit_7_e
  | _, .reg .h => .bit_7_h
  | _, .reg .l => .bit_7_l
  | _, .atHL => .bit_7_atHL
  | _, .reg .a => .bit_7_a

/-- RES b,r and RES b,(HL) (R116, R263, R264). -/
def Instr.resLoc : Fin 8 → Loc → Instr
  | 0, .reg .b => .res_0_b
  | 0, .reg .c => .res_0_c
  | 0, .reg .d => .res_0_d
  | 0, .reg .e => .res_0_e
  | 0, .reg .h => .res_0_h
  | 0, .reg .l => .res_0_l
  | 0, .atHL => .res_0_atHL
  | 0, .reg .a => .res_0_a
  | 1, .reg .b => .res_1_b
  | 1, .reg .c => .res_1_c
  | 1, .reg .d => .res_1_d
  | 1, .reg .e => .res_1_e
  | 1, .reg .h => .res_1_h
  | 1, .reg .l => .res_1_l
  | 1, .atHL => .res_1_atHL
  | 1, .reg .a => .res_1_a
  | 2, .reg .b => .res_2_b
  | 2, .reg .c => .res_2_c
  | 2, .reg .d => .res_2_d
  | 2, .reg .e => .res_2_e
  | 2, .reg .h => .res_2_h
  | 2, .reg .l => .res_2_l
  | 2, .atHL => .res_2_atHL
  | 2, .reg .a => .res_2_a
  | 3, .reg .b => .res_3_b
  | 3, .reg .c => .res_3_c
  | 3, .reg .d => .res_3_d
  | 3, .reg .e => .res_3_e
  | 3, .reg .h => .res_3_h
  | 3, .reg .l => .res_3_l
  | 3, .atHL => .res_3_atHL
  | 3, .reg .a => .res_3_a
  | 4, .reg .b => .res_4_b
  | 4, .reg .c => .res_4_c
  | 4, .reg .d => .res_4_d
  | 4, .reg .e => .res_4_e
  | 4, .reg .h => .res_4_h
  | 4, .reg .l => .res_4_l
  | 4, .atHL => .res_4_atHL
  | 4, .reg .a => .res_4_a
  | 5, .reg .b => .res_5_b
  | 5, .reg .c => .res_5_c
  | 5, .reg .d => .res_5_d
  | 5, .reg .e => .res_5_e
  | 5, .reg .h => .res_5_h
  | 5, .reg .l => .res_5_l
  | 5, .atHL => .res_5_atHL
  | 5, .reg .a => .res_5_a
  | 6, .reg .b => .res_6_b
  | 6, .reg .c => .res_6_c
  | 6, .reg .d => .res_6_d
  | 6, .reg .e => .res_6_e
  | 6, .reg .h => .res_6_h
  | 6, .reg .l => .res_6_l
  | 6, .atHL => .res_6_atHL
  | 6, .reg .a => .res_6_a
  | _, .reg .b => .res_7_b
  | _, .reg .c => .res_7_c
  | _, .reg .d => .res_7_d
  | _, .reg .e => .res_7_e
  | _, .reg .h => .res_7_h
  | _, .reg .l => .res_7_l
  | _, .atHL => .res_7_atHL
  | _, .reg .a => .res_7_a

/-- SET b,r and SET b,(HL) (R116, R265, R266). -/
def Instr.setLoc : Fin 8 → Loc → Instr
  | 0, .reg .b => .set_0_b
  | 0, .reg .c => .set_0_c
  | 0, .reg .d => .set_0_d
  | 0, .reg .e => .set_0_e
  | 0, .reg .h => .set_0_h
  | 0, .reg .l => .set_0_l
  | 0, .atHL => .set_0_atHL
  | 0, .reg .a => .set_0_a
  | 1, .reg .b => .set_1_b
  | 1, .reg .c => .set_1_c
  | 1, .reg .d => .set_1_d
  | 1, .reg .e => .set_1_e
  | 1, .reg .h => .set_1_h
  | 1, .reg .l => .set_1_l
  | 1, .atHL => .set_1_atHL
  | 1, .reg .a => .set_1_a
  | 2, .reg .b => .set_2_b
  | 2, .reg .c => .set_2_c
  | 2, .reg .d => .set_2_d
  | 2, .reg .e => .set_2_e
  | 2, .reg .h => .set_2_h
  | 2, .reg .l => .set_2_l
  | 2, .atHL => .set_2_atHL
  | 2, .reg .a => .set_2_a
  | 3, .reg .b => .set_3_b
  | 3, .reg .c => .set_3_c
  | 3, .reg .d => .set_3_d
  | 3, .reg .e => .set_3_e
  | 3, .reg .h => .set_3_h
  | 3, .reg .l => .set_3_l
  | 3, .atHL => .set_3_atHL
  | 3, .reg .a => .set_3_a
  | 4, .reg .b => .set_4_b
  | 4, .reg .c => .set_4_c
  | 4, .reg .d => .set_4_d
  | 4, .reg .e => .set_4_e
  | 4, .reg .h => .set_4_h
  | 4, .reg .l => .set_4_l
  | 4, .atHL => .set_4_atHL
  | 4, .reg .a => .set_4_a
  | 5, .reg .b => .set_5_b
  | 5, .reg .c => .set_5_c
  | 5, .reg .d => .set_5_d
  | 5, .reg .e => .set_5_e
  | 5, .reg .h => .set_5_h
  | 5, .reg .l => .set_5_l
  | 5, .atHL => .set_5_atHL
  | 5, .reg .a => .set_5_a
  | 6, .reg .b => .set_6_b
  | 6, .reg .c => .set_6_c
  | 6, .reg .d => .set_6_d
  | 6, .reg .e => .set_6_e
  | 6, .reg .h => .set_6_h
  | 6, .reg .l => .set_6_l
  | 6, .atHL => .set_6_atHL
  | 6, .reg .a => .set_6_a
  | _, .reg .b => .set_7_b
  | _, .reg .c => .set_7_c
  | _, .reg .d => .set_7_d
  | _, .reg .e => .set_7_e
  | _, .reg .h => .set_7_h
  | _, .reg .l => .set_7_l
  | _, .atHL => .set_7_atHL
  | _, .reg .a => .set_7_a

/-- The operand field `r` (R104). -/
def decodeLoc : Fin 8 → Loc
  | 0 => .reg .b
  | 1 => .reg .c
  | 2 => .reg .d
  | 3 => .reg .e
  | 4 => .reg .h
  | 5 => .reg .l
  | 6 => .atHL
  | _ => .reg .a

/-- The pair field `rp` (R105). -/
def decodePair : Fin 4 → Pair
  | 0 => .bc
  | 1 => .de
  | 2 => .hl
  | _ => .sp

/-- The pair field `rp2` (R106). -/
def decodeStackPair : Fin 4 → StackPair
  | 0 => .bc
  | 1 => .de
  | 2 => .hl
  | _ => .af

/-- The condition field `cc` (R107). -/
def decodeCond : Fin 4 → Cond
  | 0 => .nz
  | 1 => .z
  | 2 => .nc
  | _ => .c

/-- The operation field `alu` (R108). -/
def decodeAlu : Fin 8 → AluOp
  | 0 => .add
  | 1 => .adc
  | 2 => .sub
  | 3 => .sbc
  | 4 => .and
  | 5 => .xor
  | 6 => .or
  | _ => .cp

/-- The rotate and shift field (R109). -/
def decodeRot : Fin 8 → RotOp
  | 0 => .rlc
  | 1 => .rrc
  | 2 => .rl
  | 3 => .rr
  | 4 => .sla
  | 5 => .sra
  | 6 => .swap
  | _ => .srl

/-- Block x = 00 (R112). -/
def decodeBlock0 (op n1 n2 : Byte) : Instr :=
  match fieldZ op with
  | 0 =>
    match fieldY op with
    | 0 => .nop
    | 1 => .ld_atNN_sp (joinBytes n2 n1)
    | 2 => .stop n1
    | 3 => .jr_e n1
    | _ => .jrCond (decodeCond (fieldCC op)) n1
  | 1 =>
    match fieldQ op with
    | 0 => .ldPairImm (decodePair (fieldP op)) (joinBytes n2 n1)
    | _ => .addHLPair (decodePair (fieldP op))
  | 2 =>
    match fieldY op with
    | 0 => .ld_atBC_a
    | 1 => .ld_a_atBC
    | 2 => .ld_atDE_a
    | 3 => .ld_a_atDE
    | 4 => .ld_atHLI_a
    | 5 => .ld_a_atHLI
    | 6 => .ld_atHLD_a
    | _ => .ld_a_atHLD
  | 3 =>
    match fieldQ op with
    | 0 => .incPair (decodePair (fieldP op))
    | _ => .decPair (decodePair (fieldP op))
  | 4 => .incLoc (decodeLoc (fieldY op))
  | 5 => .decLoc (decodeLoc (fieldY op))
  | 6 => .ldLocImm (decodeLoc (fieldY op)) n1
  | _ =>
    match fieldY op with
    | 0 => .rlca
    | 1 => .rrca
    | 2 => .rla
    | 3 => .rra
    | 4 => .daa
    | 5 => .cpl
    | 6 => .scf
    | _ => .ccf

/-- Block x = 01 (R113): 8-bit loads, with HALT in the slot of LD (HL),(HL). -/
def decodeBlock1 (op : Byte) : Instr :=
  match decodeLoc (fieldY op), decodeLoc (fieldZ op) with
  | .reg dst, .reg src => .ldRegReg dst src
  | .reg dst, .atHL => .ldRegAtHL dst
  | .atHL, .reg src => .ldAtHLReg src
  | .atHL, .atHL => .halt

/-- Block x = 10 (R114). -/
def decodeBlock2 (op : Byte) : Instr := .aluLoc (decodeAlu (fieldY op)) (decodeLoc (fieldZ op))

/-- The CB map (R116), by the second byte. -/
def decodeCB (op2 : Byte) : Instr :=
  match fieldX op2 with
  | 0 => .rotLoc (decodeRot (fieldY op2)) (decodeLoc (fieldZ op2))
  | 1 => .bitLoc (fieldY op2) (decodeLoc (fieldZ op2))
  | 2 => .resLoc (fieldY op2) (decodeLoc (fieldZ op2))
  | _ => .setLoc (fieldY op2) (decodeLoc (fieldZ op2))

/-- Block x = 11 (R115, R117). -/
def decodeBlock3 (op n1 n2 : Byte) : Instr :=
  match fieldZ op with
  | 0 =>
    match fieldY op with
    | 4 => .ldh_atN_a n1
    | 5 => .add_sp_e n1
    | 6 => .ldh_a_atN n1
    | 7 => .ld_hl_sp_e n1
    | _ => .retCond (decodeCond (fieldCC op))
  | 1 =>
    match fieldQ op with
    | 0 => .popPair (decodeStackPair (fieldP op))
    | _ =>
      match fieldP op with
      | 0 => .ret
      | 1 => .reti
      | 2 => .jp_hl
      | _ => .ld_sp_hl
  | 2 =>
    match fieldY op with
    | 4 => .ld_atC_a
    | 5 => .ld_atNN_a (joinBytes n2 n1)
    | 6 => .ld_a_atC
    | 7 => .ld_a_atNN (joinBytes n2 n1)
    | _ => .jpCond (decodeCond (fieldCC op)) (joinBytes n2 n1)
  | 3 =>
    match fieldY op with
    | 0 => .jp_nn (joinBytes n2 n1)
    | 1 => decodeCB n1
    | 2 => .illegal_d3
    | 3 => .illegal_db
    | 4 => .illegal_e3
    | 5 => .illegal_eb
    | 6 => .di
    | _ => .ei
  | 4 =>
    match fieldY op with
    | 4 => .illegal_e4
    | 5 => .illegal_ec
    | 6 => .illegal_f4
    | 7 => .illegal_fc
    | _ => .callCond (decodeCond (fieldCC op)) (joinBytes n2 n1)
  | 5 =>
    match fieldQ op with
    | 0 => .pushPair (decodeStackPair (fieldP op))
    | _ =>
      match fieldP op with
      | 0 => .call_nn (joinBytes n2 n1)
      | 1 => .illegal_dd
      | 2 => .illegal_ed
      | _ => .illegal_fd
  | 6 => .aluImm (decodeAlu (fieldY op)) n1
  | _ => .rst (fieldY op)

/-- The instruction whose first byte is `op` and whose next bytes are `n1` and `n2`, as far as it has them: total on every byte (R120). -/
def decodeInstr (op n1 n2 : Byte) : Instr :=
  match fieldX op with
  | 0 => decodeBlock0 op n1 n2
  | 1 => decodeBlock1 op
  | 2 => decodeBlock2 op
  | _ => decodeBlock3 op n1 n2

/-- Why a string of bytes holds no instruction. No byte value is ever a reason (R120). -/
inductive DecodeError where
  | empty      -- there is no first byte
  | truncated  -- the string ends inside the instruction its first byte begins
  deriving DecidableEq, Repr

/-- One instruction from the front of a string of bytes, and the bytes after it. -/
def decode : List Byte → Except DecodeError (Instr × List Byte)
  | [] => .error .empty
  | op :: rest =>
    if rest.length + 1 < instrLength op then .error .truncated
    else .ok (decodeInstr op (rest.getD 0 0) (rest.getD 1 0), rest.drop (instrLength op - 1))

/-- The bytes of an instruction in fetch order, by the rows of the opcode table (R111; low immediate byte first, R75). -/
def encode : Instr → List Byte
  | .nop => [0x00]
  | .ld_bc_nn nn => [0x01, loByte nn, hiByte nn]
  | .ld_atBC_a => [0x02]
  | .inc_bc => [0x03]
  | .inc_b => [0x04]
  | .dec_b => [0x05]
  | .ld_b_n n => [0x06, n]
  | .rlca => [0x07]
  | .ld_atNN_sp nn => [0x08, loByte nn, hiByte nn]
  | .add_hl_bc => [0x09]
  | .ld_a_atBC => [0x0A]
  | .dec_bc => [0x0B]
  | .inc_c => [0x0C]
  | .dec_c => [0x0D]
  | .ld_c_n n => [0x0E, n]
  | .rrca => [0x0F]
  | .stop x => [0x10, x]
  | .ld_de_nn nn => [0x11, loByte nn, hiByte nn]
  | .ld_atDE_a => [0x12]
  | .inc_de => [0x13]
  | .inc_d => [0x14]
  | .dec_d => [0x15]
  | .ld_d_n n => [0x16, n]
  | .rla => [0x17]
  | .jr_e e => [0x18, e]
  | .add_hl_de => [0x19]
  | .ld_a_atDE => [0x1A]
  | .dec_de => [0x1B]
  | .inc_e => [0x1C]
  | .dec_e => [0x1D]
  | .ld_e_n n => [0x1E, n]
  | .rra => [0x1F]
  | .jr_nz_e e => [0x20, e]
  | .ld_hl_nn nn => [0x21, loByte nn, hiByte nn]
  | .ld_atHLI_a => [0x22]
  | .inc_hl => [0x23]
  | .inc_h => [0x24]
  | .dec_h => [0x25]
  | .ld_h_n n => [0x26, n]
  | .daa => [0x27]
  | .jr_z_e e => [0x28, e]
  | .add_hl_hl => [0x29]
  | .ld_a_atHLI => [0x2A]
  | .dec_hl => [0x2B]
  | .inc_l => [0x2C]
  | .dec_l => [0x2D]
  | .ld_l_n n => [0x2E, n]
  | .cpl => [0x2F]
  | .jr_nc_e e => [0x30, e]
  | .ld_sp_nn nn => [0x31, loByte nn, hiByte nn]
  | .ld_atHLD_a => [0x32]
  | .inc_sp => [0x33]
  | .inc_atHL => [0x34]
  | .dec_atHL => [0x35]
  | .ld_atHL_n n => [0x36, n]
  | .scf => [0x37]
  | .jr_c_e e => [0x38, e]
  | .add_hl_sp => [0x39]
  | .ld_a_atHLD => [0x3A]
  | .dec_sp => [0x3B]
  | .inc_a => [0x3C]
  | .dec_a => [0x3D]
  | .ld_a_n n => [0x3E, n]
  | .ccf => [0x3F]
  | .ld_b_b => [0x40]
  | .ld_b_c => [0x41]
  | .ld_b_d => [0x42]
  | .ld_b_e => [0x43]
  | .ld_b_h => [0x44]
  | .ld_b_l => [0x45]
  | .ld_b_atHL => [0x46]
  | .ld_b_a => [0x47]
  | .ld_c_b => [0x48]
  | .ld_c_c => [0x49]
  | .ld_c_d => [0x4A]
  | .ld_c_e => [0x4B]
  | .ld_c_h => [0x4C]
  | .ld_c_l => [0x4D]
  | .ld_c_atHL => [0x4E]
  | .ld_c_a => [0x4F]
  | .ld_d_b => [0x50]
  | .ld_d_c => [0x51]
  | .ld_d_d => [0x52]
  | .ld_d_e => [0x53]
  | .ld_d_h => [0x54]
  | .ld_d_l => [0x55]
  | .ld_d_atHL => [0x56]
  | .ld_d_a => [0x57]
  | .ld_e_b => [0x58]
  | .ld_e_c => [0x59]
  | .ld_e_d => [0x5A]
  | .ld_e_e => [0x5B]
  | .ld_e_h => [0x5C]
  | .ld_e_l => [0x5D]
  | .ld_e_atHL => [0x5E]
  | .ld_e_a => [0x5F]
  | .ld_h_b => [0x60]
  | .ld_h_c => [0x61]
  | .ld_h_d => [0x62]
  | .ld_h_e => [0x63]
  | .ld_h_h => [0x64]
  | .ld_h_l => [0x65]
  | .ld_h_atHL => [0x66]
  | .ld_h_a => [0x67]
  | .ld_l_b => [0x68]
  | .ld_l_c => [0x69]
  | .ld_l_d => [0x6A]
  | .ld_l_e => [0x6B]
  | .ld_l_h => [0x6C]
  | .ld_l_l => [0x6D]
  | .ld_l_atHL => [0x6E]
  | .ld_l_a => [0x6F]
  | .ld_atHL_b => [0x70]
  | .ld_atHL_c => [0x71]
  | .ld_atHL_d => [0x72]
  | .ld_atHL_e => [0x73]
  | .ld_atHL_h => [0x74]
  | .ld_atHL_l => [0x75]
  | .halt => [0x76]
  | .ld_atHL_a => [0x77]
  | .ld_a_b => [0x78]
  | .ld_a_c => [0x79]
  | .ld_a_d => [0x7A]
  | .ld_a_e => [0x7B]
  | .ld_a_h => [0x7C]
  | .ld_a_l => [0x7D]
  | .ld_a_atHL => [0x7E]
  | .ld_a_a => [0x7F]
  | .add_a_b => [0x80]
  | .add_a_c => [0x81]
  | .add_a_d => [0x82]
  | .add_a_e => [0x83]
  | .add_a_h => [0x84]
  | .add_a_l => [0x85]
  | .add_a_atHL => [0x86]
  | .add_a_a => [0x87]
  | .adc_a_b => [0x88]
  | .adc_a_c => [0x89]
  | .adc_a_d => [0x8A]
  | .adc_a_e => [0x8B]
  | .adc_a_h => [0x8C]
  | .adc_a_l => [0x8D]
  | .adc_a_atHL => [0x8E]
  | .adc_a_a => [0x8F]
  | .sub_b => [0x90]
  | .sub_c => [0x91]
  | .sub_d => [0x92]
  | .sub_e => [0x93]
  | .sub_h => [0x94]
  | .sub_l => [0x95]
  | .sub_atHL => [0x96]
  | .sub_a => [0x97]
  | .sbc_a_b => [0x98]
  | .sbc_a_c => [0x99]
  | .sbc_a_d => [0x9A]
  | .sbc_a_e => [0x9B]
  | .sbc_a_h => [0x9C]
  | .sbc_a_l => [0x9D]
  | .sbc_a_atHL => [0x9E]
  | .sbc_a_a => [0x9F]
  | .and_b => [0xA0]
  | .and_c => [0xA1]
  | .and_d => [0xA2]
  | .and_e => [0xA3]
  | .and_h => [0xA4]
  | .and_l => [0xA5]
  | .and_atHL => [0xA6]
  | .and_a => [0xA7]
  | .xor_b => [0xA8]
  | .xor_c => [0xA9]
  | .xor_d => [0xAA]
  | .xor_e => [0xAB]
  | .xor_h => [0xAC]
  | .xor_l => [0xAD]
  | .xor_atHL => [0xAE]
  | .xor_a => [0xAF]
  | .or_b => [0xB0]
  | .or_c => [0xB1]
  | .or_d => [0xB2]
  | .or_e => [0xB3]
  | .or_h => [0xB4]
  | .or_l => [0xB5]
  | .or_atHL => [0xB6]
  | .or_a => [0xB7]
  | .cp_b => [0xB8]
  | .cp_c => [0xB9]
  | .cp_d => [0xBA]
  | .cp_e => [0xBB]
  | .cp_h => [0xBC]
  | .cp_l => [0xBD]
  | .cp_atHL => [0xBE]
  | .cp_a => [0xBF]
  | .ret_nz => [0xC0]
  | .pop_bc => [0xC1]
  | .jp_nz_nn nn => [0xC2, loByte nn, hiByte nn]
  | .jp_nn nn => [0xC3, loByte nn, hiByte nn]
  | .call_nz_nn nn => [0xC4, loByte nn, hiByte nn]
  | .push_bc => [0xC5]
  | .add_a_n n => [0xC6, n]
  | .rst_00h => [0xC7]
  | .ret_z => [0xC8]
  | .ret => [0xC9]
  | .jp_z_nn nn => [0xCA, loByte nn, hiByte nn]
  | .call_z_nn nn => [0xCC, loByte nn, hiByte nn]
  | .call_nn nn => [0xCD, loByte nn, hiByte nn]
  | .adc_a_n n => [0xCE, n]
  | .rst_08h => [0xCF]
  | .ret_nc => [0xD0]
  | .pop_de => [0xD1]
  | .jp_nc_nn nn => [0xD2, loByte nn, hiByte nn]
  | .illegal_d3 => [0xD3]
  | .call_nc_nn nn => [0xD4, loByte nn, hiByte nn]
  | .push_de => [0xD5]
  | .sub_n n => [0xD6, n]
  | .rst_10h => [0xD7]
  | .ret_c => [0xD8]
  | .reti => [0xD9]
  | .jp_c_nn nn => [0xDA, loByte nn, hiByte nn]
  | .illegal_db => [0xDB]
  | .call_c_nn nn => [0xDC, loByte nn, hiByte nn]
  | .illegal_dd => [0xDD]
  | .sbc_a_n n => [0xDE, n]
  | .rst_18h => [0xDF]
  | .ldh_atN_a n => [0xE0, n]
  | .pop_hl => [0xE1]
  | .ld_atC_a => [0xE2]
  | .illegal_e3 => [0xE3]
  | .illegal_e4 => [0xE4]
  | .push_hl => [0xE5]
  | .and_n n => [0xE6, n]
  | .rst_20h => [0xE7]
  | .add_sp_e e => [0xE8, e]
  | .jp_hl => [0xE9]
  | .ld_atNN_a nn => [0xEA, loByte nn, hiByte nn]
  | .illegal_eb => [0xEB]
  | .illegal_ec => [0xEC]
  | .illegal_ed => [0xED]
  | .xor_n n => [0xEE, n]
  | .rst_28h => [0xEF]
  | .ldh_a_atN n => [0xF0, n]
  | .pop_af => [0xF1]
  | .ld_a_atC => [0xF2]
  | .di => [0xF3]
  | .illegal_f4 => [0xF4]
  | .push_af => [0xF5]
  | .or_n n => [0xF6, n]
  | .rst_30h => [0xF7]
  | .ld_hl_sp_e e => [0xF8, e]
  | .ld_sp_hl => [0xF9]
  | .ld_a_atNN nn => [0xFA, loByte nn, hiByte nn]
  | .ei => [0xFB]
  | .illegal_fc => [0xFC]
  | .illegal_fd => [0xFD]
  | .cp_n n => [0xFE, n]
  | .rst_38h => [0xFF]
  | .rlc_b => [0xCB, 0x00]
  | .rlc_c => [0xCB, 0x01]
  | .rlc_d => [0xCB, 0x02]
  | .rlc_e => [0xCB, 0x03]
  | .rlc_h => [0xCB, 0x04]
  | .rlc_l => [0xCB, 0x05]
  | .rlc_atHL => [0xCB, 0x06]
  | .rlc_a => [0xCB, 0x07]
  | .rrc_b => [0xCB, 0x08]
  | .rrc_c => [0xCB, 0x09]
  | .rrc_d => [0xCB, 0x0A]
  | .rrc_e => [0xCB, 0x0B]
  | .rrc_h => [0xCB, 0x0C]
  | .rrc_l => [0xCB, 0x0D]
  | .rrc_atHL => [0xCB, 0x0E]
  | .rrc_a => [0xCB, 0x0F]
  | .rl_b => [0xCB, 0x10]
  | .rl_c => [0xCB, 0x11]
  | .rl_d => [0xCB, 0x12]
  | .rl_e => [0xCB, 0x13]
  | .rl_h => [0xCB, 0x14]
  | .rl_l => [0xCB, 0x15]
  | .rl_atHL => [0xCB, 0x16]
  | .rl_a => [0xCB, 0x17]
  | .rr_b => [0xCB, 0x18]
  | .rr_c => [0xCB, 0x19]
  | .rr_d => [0xCB, 0x1A]
  | .rr_e => [0xCB, 0x1B]
  | .rr_h => [0xCB, 0x1C]
  | .rr_l => [0xCB, 0x1D]
  | .rr_atHL => [0xCB, 0x1E]
  | .rr_a => [0xCB, 0x1F]
  | .sla_b => [0xCB, 0x20]
  | .sla_c => [0xCB, 0x21]
  | .sla_d => [0xCB, 0x22]
  | .sla_e => [0xCB, 0x23]
  | .sla_h => [0xCB, 0x24]
  | .sla_l => [0xCB, 0x25]
  | .sla_atHL => [0xCB, 0x26]
  | .sla_a => [0xCB, 0x27]
  | .sra_b => [0xCB, 0x28]
  | .sra_c => [0xCB, 0x29]
  | .sra_d => [0xCB, 0x2A]
  | .sra_e => [0xCB, 0x2B]
  | .sra_h => [0xCB, 0x2C]
  | .sra_l => [0xCB, 0x2D]
  | .sra_atHL => [0xCB, 0x2E]
  | .sra_a => [0xCB, 0x2F]
  | .swap_b => [0xCB, 0x30]
  | .swap_c => [0xCB, 0x31]
  | .swap_d => [0xCB, 0x32]
  | .swap_e => [0xCB, 0x33]
  | .swap_h => [0xCB, 0x34]
  | .swap_l => [0xCB, 0x35]
  | .swap_atHL => [0xCB, 0x36]
  | .swap_a => [0xCB, 0x37]
  | .srl_b => [0xCB, 0x38]
  | .srl_c => [0xCB, 0x39]
  | .srl_d => [0xCB, 0x3A]
  | .srl_e => [0xCB, 0x3B]
  | .srl_h => [0xCB, 0x3C]
  | .srl_l => [0xCB, 0x3D]
  | .srl_atHL => [0xCB, 0x3E]
  | .srl_a => [0xCB, 0x3F]
  | .bit_0_b => [0xCB, 0x40]
  | .bit_0_c => [0xCB, 0x41]
  | .bit_0_d => [0xCB, 0x42]
  | .bit_0_e => [0xCB, 0x43]
  | .bit_0_h => [0xCB, 0x44]
  | .bit_0_l => [0xCB, 0x45]
  | .bit_0_atHL => [0xCB, 0x46]
  | .bit_0_a => [0xCB, 0x47]
  | .bit_1_b => [0xCB, 0x48]
  | .bit_1_c => [0xCB, 0x49]
  | .bit_1_d => [0xCB, 0x4A]
  | .bit_1_e => [0xCB, 0x4B]
  | .bit_1_h => [0xCB, 0x4C]
  | .bit_1_l => [0xCB, 0x4D]
  | .bit_1_atHL => [0xCB, 0x4E]
  | .bit_1_a => [0xCB, 0x4F]
  | .bit_2_b => [0xCB, 0x50]
  | .bit_2_c => [0xCB, 0x51]
  | .bit_2_d => [0xCB, 0x52]
  | .bit_2_e => [0xCB, 0x53]
  | .bit_2_h => [0xCB, 0x54]
  | .bit_2_l => [0xCB, 0x55]
  | .bit_2_atHL => [0xCB, 0x56]
  | .bit_2_a => [0xCB, 0x57]
  | .bit_3_b => [0xCB, 0x58]
  | .bit_3_c => [0xCB, 0x59]
  | .bit_3_d => [0xCB, 0x5A]
  | .bit_3_e => [0xCB, 0x5B]
  | .bit_3_h => [0xCB, 0x5C]
  | .bit_3_l => [0xCB, 0x5D]
  | .bit_3_atHL => [0xCB, 0x5E]
  | .bit_3_a => [0xCB, 0x5F]
  | .bit_4_b => [0xCB, 0x60]
  | .bit_4_c => [0xCB, 0x61]
  | .bit_4_d => [0xCB, 0x62]
  | .bit_4_e => [0xCB, 0x63]
  | .bit_4_h => [0xCB, 0x64]
  | .bit_4_l => [0xCB, 0x65]
  | .bit_4_atHL => [0xCB, 0x66]
  | .bit_4_a => [0xCB, 0x67]
  | .bit_5_b => [0xCB, 0x68]
  | .bit_5_c => [0xCB, 0x69]
  | .bit_5_d => [0xCB, 0x6A]
  | .bit_5_e => [0xCB, 0x6B]
  | .bit_5_h => [0xCB, 0x6C]
  | .bit_5_l => [0xCB, 0x6D]
  | .bit_5_atHL => [0xCB, 0x6E]
  | .bit_5_a => [0xCB, 0x6F]
  | .bit_6_b => [0xCB, 0x70]
  | .bit_6_c => [0xCB, 0x71]
  | .bit_6_d => [0xCB, 0x72]
  | .bit_6_e => [0xCB, 0x73]
  | .bit_6_h => [0xCB, 0x74]
  | .bit_6_l => [0xCB, 0x75]
  | .bit_6_atHL => [0xCB, 0x76]
  | .bit_6_a => [0xCB, 0x77]
  | .bit_7_b => [0xCB, 0x78]
  | .bit_7_c => [0xCB, 0x79]
  | .bit_7_d => [0xCB, 0x7A]
  | .bit_7_e => [0xCB, 0x7B]
  | .bit_7_h => [0xCB, 0x7C]
  | .bit_7_l => [0xCB, 0x7D]
  | .bit_7_atHL => [0xCB, 0x7E]
  | .bit_7_a => [0xCB, 0x7F]
  | .res_0_b => [0xCB, 0x80]
  | .res_0_c => [0xCB, 0x81]
  | .res_0_d => [0xCB, 0x82]
  | .res_0_e => [0xCB, 0x83]
  | .res_0_h => [0xCB, 0x84]
  | .res_0_l => [0xCB, 0x85]
  | .res_0_atHL => [0xCB, 0x86]
  | .res_0_a => [0xCB, 0x87]
  | .res_1_b => [0xCB, 0x88]
  | .res_1_c => [0xCB, 0x89]
  | .res_1_d => [0xCB, 0x8A]
  | .res_1_e => [0xCB, 0x8B]
  | .res_1_h => [0xCB, 0x8C]
  | .res_1_l => [0xCB, 0x8D]
  | .res_1_atHL => [0xCB, 0x8E]
  | .res_1_a => [0xCB, 0x8F]
  | .res_2_b => [0xCB, 0x90]
  | .res_2_c => [0xCB, 0x91]
  | .res_2_d => [0xCB, 0x92]
  | .res_2_e => [0xCB, 0x93]
  | .res_2_h => [0xCB, 0x94]
  | .res_2_l => [0xCB, 0x95]
  | .res_2_atHL => [0xCB, 0x96]
  | .res_2_a => [0xCB, 0x97]
  | .res_3_b => [0xCB, 0x98]
  | .res_3_c => [0xCB, 0x99]
  | .res_3_d => [0xCB, 0x9A]
  | .res_3_e => [0xCB, 0x9B]
  | .res_3_h => [0xCB, 0x9C]
  | .res_3_l => [0xCB, 0x9D]
  | .res_3_atHL => [0xCB, 0x9E]
  | .res_3_a => [0xCB, 0x9F]
  | .res_4_b => [0xCB, 0xA0]
  | .res_4_c => [0xCB, 0xA1]
  | .res_4_d => [0xCB, 0xA2]
  | .res_4_e => [0xCB, 0xA3]
  | .res_4_h => [0xCB, 0xA4]
  | .res_4_l => [0xCB, 0xA5]
  | .res_4_atHL => [0xCB, 0xA6]
  | .res_4_a => [0xCB, 0xA7]
  | .res_5_b => [0xCB, 0xA8]
  | .res_5_c => [0xCB, 0xA9]
  | .res_5_d => [0xCB, 0xAA]
  | .res_5_e => [0xCB, 0xAB]
  | .res_5_h => [0xCB, 0xAC]
  | .res_5_l => [0xCB, 0xAD]
  | .res_5_atHL => [0xCB, 0xAE]
  | .res_5_a => [0xCB, 0xAF]
  | .res_6_b => [0xCB, 0xB0]
  | .res_6_c => [0xCB, 0xB1]
  | .res_6_d => [0xCB, 0xB2]
  | .res_6_e => [0xCB, 0xB3]
  | .res_6_h => [0xCB, 0xB4]
  | .res_6_l => [0xCB, 0xB5]
  | .res_6_atHL => [0xCB, 0xB6]
  | .res_6_a => [0xCB, 0xB7]
  | .res_7_b => [0xCB, 0xB8]
  | .res_7_c => [0xCB, 0xB9]
  | .res_7_d => [0xCB, 0xBA]
  | .res_7_e => [0xCB, 0xBB]
  | .res_7_h => [0xCB, 0xBC]
  | .res_7_l => [0xCB, 0xBD]
  | .res_7_atHL => [0xCB, 0xBE]
  | .res_7_a => [0xCB, 0xBF]
  | .set_0_b => [0xCB, 0xC0]
  | .set_0_c => [0xCB, 0xC1]
  | .set_0_d => [0xCB, 0xC2]
  | .set_0_e => [0xCB, 0xC3]
  | .set_0_h => [0xCB, 0xC4]
  | .set_0_l => [0xCB, 0xC5]
  | .set_0_atHL => [0xCB, 0xC6]
  | .set_0_a => [0xCB, 0xC7]
  | .set_1_b => [0xCB, 0xC8]
  | .set_1_c => [0xCB, 0xC9]
  | .set_1_d => [0xCB, 0xCA]
  | .set_1_e => [0xCB, 0xCB]
  | .set_1_h => [0xCB, 0xCC]
  | .set_1_l => [0xCB, 0xCD]
  | .set_1_atHL => [0xCB, 0xCE]
  | .set_1_a => [0xCB, 0xCF]
  | .set_2_b => [0xCB, 0xD0]
  | .set_2_c => [0xCB, 0xD1]
  | .set_2_d => [0xCB, 0xD2]
  | .set_2_e => [0xCB, 0xD3]
  | .set_2_h => [0xCB, 0xD4]
  | .set_2_l => [0xCB, 0xD5]
  | .set_2_atHL => [0xCB, 0xD6]
  | .set_2_a => [0xCB, 0xD7]
  | .set_3_b => [0xCB, 0xD8]
  | .set_3_c => [0xCB, 0xD9]
  | .set_3_d => [0xCB, 0xDA]
  | .set_3_e => [0xCB, 0xDB]
  | .set_3_h => [0xCB, 0xDC]
  | .set_3_l => [0xCB, 0xDD]
  | .set_3_atHL => [0xCB, 0xDE]
  | .set_3_a => [0xCB, 0xDF]
  | .set_4_b => [0xCB, 0xE0]
  | .set_4_c => [0xCB, 0xE1]
  | .set_4_d => [0xCB, 0xE2]
  | .set_4_e => [0xCB, 0xE3]
  | .set_4_h => [0xCB, 0xE4]
  | .set_4_l => [0xCB, 0xE5]
  | .set_4_atHL => [0xCB, 0xE6]
  | .set_4_a => [0xCB, 0xE7]
  | .set_5_b => [0xCB, 0xE8]
  | .set_5_c => [0xCB, 0xE9]
  | .set_5_d => [0xCB, 0xEA]
  | .set_5_e => [0xCB, 0xEB]
  | .set_5_h => [0xCB, 0xEC]
  | .set_5_l => [0xCB, 0xED]
  | .set_5_atHL => [0xCB, 0xEE]
  | .set_5_a => [0xCB, 0xEF]
  | .set_6_b => [0xCB, 0xF0]
  | .set_6_c => [0xCB, 0xF1]
  | .set_6_d => [0xCB, 0xF2]
  | .set_6_e => [0xCB, 0xF3]
  | .set_6_h => [0xCB, 0xF4]
  | .set_6_l => [0xCB, 0xF5]
  | .set_6_atHL => [0xCB, 0xF6]
  | .set_6_a => [0xCB, 0xF7]
  | .set_7_b => [0xCB, 0xF8]
  | .set_7_c => [0xCB, 0xF9]
  | .set_7_d => [0xCB, 0xFA]
  | .set_7_e => [0xCB, 0xFB]
  | .set_7_h => [0xCB, 0xFC]
  | .set_7_l => [0xCB, 0xFD]
  | .set_7_atHL => [0xCB, 0xFE]
  | .set_7_a => [0xCB, 0xFF]

/-- The number of an instruction's row: its opcode byte, or 256 more than the second byte of a CB instruction. CYCLES is indexed by it. -/
def Instr.key (i : Instr) : Nat :=
  match encode i with
  | [] => 0
  | op :: rest => if op = 0xCB then 256 + (rest.getD 0 0).toNat else op.toNat

/-- The bytes, in fetch order, of the table word `w` of `nbits` bits, followed by zeros up to the longest instruction. The table
numbers a row's first byte 7:0, but numbers a CB row as the two-byte value 0xCBxx, with the 0xCB that is fetched first in bits
15:8 (log entry 9): both are read here. -/
def tableBytes (nbits w : Nat) : List Byte :=
  let v := w % 2 ^ nbits
  if nbits = 16 ∧ v / 256 = 0xCB then [0xCB, BitVec.ofNat 8 v, 0]
  else [BitVec.ofNat 8 v, BitVec.ofNat 8 (v / 256), BitVec.ofNat 8 (v / 65536)]

/-- What the decoder reads from a word of the opcode table. -/
def decodeTableWord (nbits w : Nat) : Option Instr :=
  match decode (tableBytes nbits w) with
  | .ok (i, _) => some i
  | .error _ => none

end Sys2Proof
end

