-- ==== Sys2Proof/Config.lean ====
section
/-! DEFINITION. The named parameters of spec/00_scope.md R9: TIMER_OVERSHOOT and CYCLES (held, read-only, in `State.params`, so that
every statement about a state holds for each of their settings), RESET_PROFILE and its draws and IME_RESET (arguments of a reset,
R370), and the two functions of a BUS other than FLAT_RAM. Which BUS a machine has is told by its bus state (`BusState` of
Machine/State.lean). -/

namespace Sys2Proof

/-- TIMER_OVERSHOOT (92_eei_decisions.md D13, R351): what becomes of the cycles by which a step overshoots the countdown. -/
inductive Overshoot where
  | carry    -- the period is added to the overshot value (the default)
  | discard  -- the full period is reloaded, one tick a step at most
  deriving DecidableEq, Repr

/-- The parameters a machine is built with. `cycleTable` is CYCLES as a list of departures from the default table of R383: the
entry `((key, taken), k)` gives the count `k` to the instruction numbered `key` (`Instr.key` of Decode.lean) on its
taken (or, for `false`, not taken) path. The empty list is the default table; every table is some list. -/
structure Params where
  overshoot  : Overshoot
  cycleTable : List ((Nat × Bool) × Nat)
  deriving DecidableEq, Repr

/-- The defaults the spec names: `carry` (D13) and the table of R383 (D2). -/
def Params.standard : Params where
  overshoot := .carry
  cycleTable := []

/-- The values RESET_PROFILE = POWER_ON draws once at reset, under no law (R56, R370): the model takes them as data, so a
claim about a reset holds for every draw. -/
structure PowerOnDraw where
  a     : Byte
  flags : Flags
  b     : Byte
  c     : Byte
  d     : Byte
  e     : Byte
  h     : Byte
  l     : Byte
  sp    : Word
  ie    : Byte
  iflag : BitVec 5
  deriving DecidableEq, Repr

/-- RESET_PROFILE (D5, R56). -/
inductive ResetProfile where
  | dmgPostboot                   -- the state the DMG boot ROM leaves at 0x0100 (the default)
  | powerOn (draw : PowerOnDraw)  -- PC = 0, the timer zeroed, every other register drawn
  deriving DecidableEq, Repr

/-- `busRead` of a BUS other than FLAT_RAM (20_memory.md R73, D8). The spec assumes of BUS only that it answers, so the function
has no body: what is proved of it holds for every bus (log entry 1). `data` is the bus's state, coded in numbers. -/
opaque Config.busRead (data : List Nat) (a : Word) : Byte

/-- `busWrite` of a BUS other than FLAT_RAM (R73, D8): the bus's state after the store. It has no body, as `Config.busRead`. -/
opaque Config.busWrite (data : List Nat) (a : Word) (v : Byte) : List Nat

end Sys2Proof
end

