-- ==== Sys2Proof/Machine/State.lean ====
section
/-! DEFINITION. The state of the core, as spec/10_state.md gives it, the reasons a step could stop, and the state after reset (R56, R370). -/

namespace Sys2Proof.Machine

/-- The reasons the machine could stop outside its own state. The spec gives none: no access traps (R322), no value is
refused, and the one fault, IllegalOpcode, is a state the machine goes on from (R345). So there is no constructor, and by its
type no step of this model ever faults. -/
inductive Fault where
  deriving DecidableEq, Repr

/-- The reasons a meaning could be missing. -/
inductive Refusal where
  /-- Raised only by an arm of `exec` that has no meaning yet (no arm is left so); safe, since nothing is then said of the instruction. -/
  | notModelled (mnemonic : String)
  deriving DecidableEq, Repr

/-- The recorded fault IllegalOpcode(op, addr) of R44, R323: the opcode byte and the address it was fetched from. -/
structure IllegalOpcode where
  op   : Byte
  addr : Word
  deriving DecidableEq, Repr

/-- `BusState` (20_memory.md R73), with the parameter BUS told by its constructor. `busRead` and `busWrite` of Machine/Memory.lean
are the bus's two functions. -/
inductive BusState where
  /-- FLAT_RAM, the default: the memory outside the six block registers, rising by address. -/
  | flatRam (mem : List Host.Cell)
  /-- Any other BUS: its state coded in numbers, read and written by the opaque `Config.busRead` and `Config.busWrite`. -/
  | external (data : List Nat)
  deriving DecidableEq, Repr

/-- The state tuple at the head of 10_state.md, the bus state (20_memory.md R73), and two fields of the model's own: the count the
last step reported and the read-only parameters. The pairs AF, BC, DE and HL are views (R31). -/
structure State where
  a : Byte
  flags : Flags              -- F (R34, R35)
  b : Byte
  c : Byte
  d : Byte
  e : Byte
  h : Byte
  l : Byte
  sp : Word
  pc : Word
  ime : Bool                 -- R40
  halted : Bool              -- R41
  haltBug : Bool             -- R42
  stopped : Bool             -- R43
  locked : Bool              -- R44
  fault : Option IllegalOpcode
  ie : Byte                  -- R45, at 0xFFFF
  iflag : BitVec 5           -- IF, R46, at 0xFF0F
  div : Byte                 -- R47, at 0xFF04
  divAcc : Nat               -- R48
  tima : Byte                -- R49, at 0xFF05
  tma : Byte                 -- R50, at 0xFF06
  tac : BitVec 3             -- R51, at 0xFF07
  countdown : Int            -- R52
  bus : BusState             -- all but the six block registers (R72, R73)
  cycles : Nat               -- what the last step() returned (R16, R320): the model's own field
  params : Params            -- TIMER_OVERSHOOT and CYCLES (R9): the model's own field, never written by a step
  deriving DecidableEq, Repr

/-- The answer of a meaning and of a step. -/
abbrev Result := Host.Outcome State Fault Refusal

/-- `reset(profile)` (R340, R370): every field as R56 gives it for the profile, IME from IME_RESET, the bus and the parameters as
they are given (R372). A POWER_ON register is the profile's draw. -/
def State.resetTo (profile : ResetProfile) (imeReset : Bool) (params : Params) (bus : BusState) : State :=
  match profile with
  | .dmgPostboot =>
    { a := 0x01, flags := { z := true, n := false, h := true, c := true }
      b := 0x00, c := 0x13, d := 0x00, e := 0xD8, h := 0x01, l := 0x4D
      sp := 0xFFFE, pc := 0x0100
      ime := imeReset, halted := false, haltBug := false, stopped := false, locked := false, fault := none
      ie := 0x00, iflag := 0x01
      div := 0xAB, divAcc := 0xCC, tima := 0x00, tma := 0x00, tac := 0, countdown := 1024
      bus := bus, cycles := 0, params := params }
  | .powerOn draw =>
    { a := draw.a, flags := draw.flags
      b := draw.b, c := draw.c, d := draw.d, e := draw.e, h := draw.h, l := draw.l
      sp := draw.sp, pc := 0x0000
      ime := imeReset, halted := false, haltBug := false, stopped := false, locked := false, fault := none
      ie := draw.ie, iflag := draw.iflag
      div := 0x00, divAcc := 0, tima := 0x00, tma := 0x00, tac := 0, countdown := 1024
      bus := bus, cycles := 0, params := params }

/-- The machine right after reset with every parameter at the default the spec names: RESET_PROFILE = DMG_POSTBOOT, IME_RESET = 0,
TIMER_OVERSHOOT = carry, the CYCLES table of R383, and BUS = FLAT_RAM with no byte written. -/
def State.reset : State := State.resetTo .dmgPostboot false Params.standard (.flatRam [])

end Sys2Proof.Machine
end

