-- ==== Sys2Proof/Machine/Memory.lean ====
section
/-! DEFINITION. The bus (spec/20_memory.md R73). FLAT_RAM is a list of (address, byte) pairs in one canonical form, addresses strictly
rising and no entry equal to what an unlisted address reads as. The six block registers (R72) are never the bus's. -/

namespace Sys2Proof.Machine

/-- The six registers the block owns of the address space (R72). -/
inductive BlockReg where
  | div | tima | tma | tac | iflag | ie
  deriving DecidableEq, Repr

/-- The address decoder's cases (R74): the block register at an address, or none where the bus answers. -/
def blockReg? (a : Word) : Option BlockReg :=
  if a = 0xFF04 then some .div
  else if a = 0xFF05 then some .tima
  else if a = 0xFF06 then some .tma
  else if a = 0xFF07 then some .tac
  else if a = 0xFF0F then some .iflag
  else if a = 0xFFFF then some .ie
  else none

/-- What a byte that nothing has written reads as. DESIGN CHOICE, unsafe (log entry 2): the spec leaves the bus's contents at
reset to the bus; its own vectors use 0x00. -/
def Memory.unlisted : Byte := 0x00

/-- A byte of FLAT_RAM. -/
def Memory.read : List Host.Cell → Nat → Byte
  | [], _ => Memory.unlisted
  | (k, v) :: m, a => if k = a then v else Memory.read m a

/-- The memory without its entry at `a`. -/
def Memory.erase (m : List Host.Cell) (a : Nat) : List Host.Cell := m.filter fun cell => cell.1 != a

/-- A cell put before the first greater address. -/
def Memory.insert (a : Nat) (v : Byte) : List Host.Cell → List Host.Cell
  | [] => [(a, v)]
  | (k, w) :: m => if a < k then (a, v) :: (k, w) :: m else (k, w) :: Memory.insert a v m

/-- A byte of FLAT_RAM stored, keeping the canonical form. -/
def Memory.write (m : List Host.Cell) (a : Nat) (v : Byte) : List Host.Cell :=
  if v = Memory.unlisted then Memory.erase m a else Memory.insert a v (Memory.erase m a)

/-- Addresses strictly rise. -/
def Memory.rising : List Host.Cell → Bool
  | [] => true
  | [_] => true
  | p :: q :: m => decide (p.1 < q.1) && Memory.rising (q :: m)

/-- A cell the canonical form may list: a 16-bit bus address, and a byte an unlisted address does not read as. -/
def Memory.cellOk (cell : Host.Cell) : Bool :=
  decide (cell.1 < 65536) && (blockReg? (BitVec.ofNat 16 cell.1)).isNone && cell.2 != Memory.unlisted

/-- The canonical form. -/
def Memory.wf (m : List Host.Cell) : Bool := Memory.rising m && m.all Memory.cellOk

/-- `busRead` (R73): FLAT_RAM's byte, or what another BUS answers. No read changes the bus state, as the type R73 gives it says. -/
def busRead : BusState → Word → Byte
  | .flatRam mem, a => Memory.read mem a.toNat
  | .external data, a => Config.busRead data a

/-- `busWrite` (R73): the bus state after a store. -/
def busWrite : BusState → Word → Byte → BusState
  | .flatRam mem, a, v => .flatRam (Memory.write mem a.toNat v)
  | .external data, a, v => .external (Config.busWrite data a v)

/-- Whether BUS is FLAT_RAM. -/
def BusState.isFlatRam : BusState → Bool
  | .flatRam _ => true
  | .external _ => false

/-- FLAT_RAM's memory is in canonical form; another BUS's state may be any. -/
def BusState.wf : BusState → Bool
  | .flatRam mem => Memory.wf mem
  | .external _ => true

end Sys2Proof.Machine
end

