-- ==== Sys2Proof/Machine/Timer.lean ====
section
/-! DEFINITION. The timer and divider (spec/60_exceptions.md R350-R356) and the cycle count a step reports (R16, R383). -/

namespace Sys2Proof.Machine

/-- The count CYCLES gives the row `key` on its taken (or not taken) path, `default` being that of R383's table. An instruction
with one count has it on the taken path. -/
def cyclesFor (p : Params) (key : Nat) (taken : Bool) (default : Nat) : Nat :=
  (p.cycleTable.lookup (key, taken)).getD default

/-- `period(s)` in cycles (R53). -/
def period (sel : BitVec 2) : Nat :=
  match sel.toNat with
  | 0 => 1024
  | 1 => 16
  | 2 => 64
  | _ => 256

/-- TAC[1:0], the clock select (R51). -/
def clockSelect (tac : BitVec 3) : BitVec 2 := tac.extractLsb' 0 2

/-- TAC[2], the timer enable (R51). -/
def timerEnabled (tac : BitVec 3) : Bool := tac.getLsbD 2

/-- The divider's part of TimerAdvance (R350): `k` cycles are added to `divAcc`, and each full 256 of it becomes one increment of DIV. -/
def State.advanceDivider (s : State) (k : Nat) : State :=
  { s with divAcc := (s.divAcc + k) % 256, div := s.div + BitVec.ofNat 8 ((s.divAcc + k) / 256) }

/-- `TimaTick()` (R352). -/
def State.timaTick (s : State) : State :=
  if s.tima = 0xFF then { s with tima := s.tma, iflag := s.iflag ||| 0x04 } else { s with tima := s.tima + 1 }

/-- `n` ticks. -/
def State.timaTicks : Nat → State → State
  | 0, s => s
  | n + 1, s => (s.timaTicks n).timaTick

/-- How often the countdown expires when it stands at `c` after the step's cycles are taken off (R350, R351): under `carry` as often
as the period must be added to bring it above 0, under `discard` at most once. -/
def expiries (o : Overshoot) (c : Int) (p : Nat) : Nat :=
  if c ≤ 0 then
    match o with
    | .carry => (-c).toNat / p + 1
    | .discard => 1
  else 0

/-- The countdown left after that many reloads. -/
def reloaded (o : Overshoot) (c : Int) (p : Nat) : Int :=
  if c ≤ 0 then
    match o with
    | .carry => c + (expiries .carry c p : Int) * (p : Int)
    | .discard => (p : Int)
  else c

/-- The countdown's part of TimerAdvance (R350-R352), its loop in closed form; `Laws/Timer.lean` shows it obeys the loop. -/
def State.advanceCountdown (s : State) (k : Nat) : State :=
  if timerEnabled s.tac then
    let p := period (clockSelect s.tac)
    let c := s.countdown - (k : Int)
    { s with countdown := reloaded s.params.overshoot c p }.timaTicks (expiries s.params.overshoot c p)
  else s

/-- `TimerAdvance(k)` (R350): the divider, then the countdown. -/
def State.timerAdvance (s : State) (k : Nat) : State := (s.advanceDivider k).advanceCountdown k

/-- The step reports `k` cycles (R16, R320). -/
def State.report (s : State) (k : Nat) : State := { s with cycles := k }

end Sys2Proof.Machine
end

