-- ==== Sys2Proof/Machine/Ops.lean ====
section
/-! DEFINITION. The named operations over registers, memory and the interrupt state: the address decoder (spec/20_memory.md R74), the fetch
(spec/30_encoding.md R101, R102), the stack (spec/40_loads.md R160, R161), interrupt dispatch and the illegal-opcode fault
(spec/60_exceptions.md R334, R345), and the return from an interrupt (spec/44_control.md R280). -/

namespace Sys2Proof.Machine

/-- `x[r]` (R13, R30). -/
def State.getReg (s : State) : Reg8 → Byte
  | .b => s.b
  | .c => s.c
  | .d => s.d
  | .e => s.e
  | .h => s.h
  | .l => s.l
  | .a => s.a

/-- `x[r] <- v` (R13). -/
def State.setReg (s : State) (r : Reg8) (v : Byte) : State :=
  match r with
  | .b => { s with b := v }
  | .c => { s with c := v }
  | .d => { s with d := v }
  | .e => { s with e := v }
  | .h => { s with h := v }
  | .l => { s with l := v }
  | .a => { s with a := v }

/-- The pair views (R31). -/
def State.bc (s : State) : Word := joinBytes s.b s.c
def State.de (s : State) : Word := joinBytes s.d s.e
def State.hl (s : State) : Word := joinBytes s.h s.l
def State.af (s : State) : Word := joinBytes s.a s.flags.toByte

/-- Writing a pair writes both halves (R31); the low half of AF keeps bits 7:4 only (R35). -/
def State.setBC (s : State) (v : Word) : State := { s with b := hiByte v, c := loByte v }
def State.setDE (s : State) (v : Word) : State := { s with d := hiByte v, e := loByte v }
def State.setHL (s : State) (v : Word) : State := { s with h := hiByte v, l := loByte v }
def State.setAF (s : State) (v : Word) : State := { s with a := hiByte v, flags := Flags.ofByte (loByte v) }

/-- `x[rr]` for the field `rp` (R105). -/
def State.getPair (s : State) : Pair → Word
  | .bc => s.bc
  | .de => s.de
  | .hl => s.hl
  | .sp => s.sp

/-- `x[rr] <- v` for the field `rp` (R105). -/
def State.setPair (s : State) (rr : Pair) (v : Word) : State :=
  match rr with
  | .bc => s.setBC v
  | .de => s.setDE v
  | .hl => s.setHL v
  | .sp => { s with sp := v }

/-- `x[rr]` for the field `rp2` (R106). -/
def State.getStackPair (s : State) : StackPair → Word
  | .bc => s.bc
  | .de => s.de
  | .hl => s.hl
  | .af => s.af

/-- `x[rr] <- v` for the field `rp2` (R106). -/
def State.setStackPair (s : State) (rr : StackPair) (v : Word) : State :=
  match rr with
  | .bc => s.setBC v
  | .de => s.setDE v
  | .hl => s.setHL v
  | .af => s.setAF v

/-- What a block register reads as (R74): the unstored bits of TAC and IF read as 1. No read has a side effect (R78). -/
def State.readBlock (s : State) : BlockReg → Byte
  | .div => s.div
  | .tima => s.tima
  | .tma => s.tma
  | .tac => 0xF8 ||| s.tac.setWidth 8
  | .iflag => 0xE0 ||| s.iflag.setWidth 8
  | .ie => s.ie

/-- What a store to a block register does (R74): DIV is cleared with its accumulator (R354), TAC keeps three bits and reloads the
countdown when the clock select changes (R353), IF keeps five bits. -/
def State.writeBlock (s : State) (r : BlockReg) (v : Byte) : State :=
  match r with
  | .div => { s with div := 0, divAcc := 0 }
  | .tima => { s with tima := v }
  | .tma => { s with tma := v }
  | .tac =>
    { s with
      tac := v.setWidth 3
      countdown :=
        if clockSelect (v.setWidth 3) ≠ clockSelect s.tac then (period (clockSelect (v.setWidth 3)) : Int) else s.countdown }
  | .iflag => { s with iflag := v.setWidth 5 }
  | .ie => { s with ie := v }

/-- `MemRead(a, 1)` (R14, R74). -/
def State.memRead (s : State) (a : Word) : Byte :=
  match blockReg? a with
  | some r => s.readBlock r
  | none => busRead s.bus a

/-- `MemWrite(a, 1, v)` (R14, R74). -/
def State.memWrite (s : State) (a : Word) (v : Byte) : State :=
  match blockReg? a with
  | some r => s.writeBlock r v
  | none => { s with bus := busWrite s.bus a v }

/-- What `FetchOpcode` adds to PC (R101): nothing under the halt bug, else 1. -/
def State.opcodeAdvance (s : State) : Word := if s.haltBug then 0 else 1

/-- PC after an instruction of `len` bytes is fetched (R38, R101, R102): past its bytes, or one short of that under the halt bug. -/
def State.pcPast (s : State) (len : Nat) : Word := s.pc + s.opcodeAdvance + BitVec.ofNat 16 (len - 1)

/-- The fetch of an instruction of `len` bytes, as it changes the state: PC moves past it, and the halt bug is spent (R101). -/
def State.advance (s : State) (len : Nat) : State := { s with pc := s.pcPast len, haltBug := false }

/-- The instruction the fetch at PC selects (R101, R102, R119): the opcode byte at PC, the following bytes from where PC then
stands, so that under the halt bug the opcode byte is read again as the next byte. -/
def State.fetchInstr (s : State) : Instr :=
  decodeInstr (s.memRead s.pc) (s.memRead (s.pc + s.opcodeAdvance)) (s.memRead (s.pc + s.opcodeAdvance + 1))

/-- `Push16(v)` (R160): the high byte at SP-1, then the low byte at SP-2. -/
def State.push16 (s : State) (v : Word) : State :=
  let s1 := { s with sp := s.sp - 1 }.memWrite (s.sp - 1) (hiByte v)
  { s1 with sp := s1.sp - 1 }.memWrite (s1.sp - 1) (loByte v)

/-- The value `Pop16()` returns (R161): the low byte at SP, the high byte at SP+1. -/
def State.popValue (s : State) : Word := joinBytes (s.memRead (s.sp + 1)) (s.memRead s.sp)

/-- What `Pop16()` does to SP (R161). -/
def State.dropWord (s : State) : State := { s with sp := s.sp + 2 }

/-- `pending = IE & IF & 0x1F` (R331). -/
def State.pending (s : State) : BitVec 5 := s.ie.setWidth 5 &&& s.iflag

/-- The vector of source `i` (R334). -/
def vectorOf (i : Fin 5) : Word := 0x0040 + 8 * BitVec.ofNat 16 i.val

/-- `Dispatch(i)` (R334): IME cleared, the request cleared, PC pushed (its bytes land in IE or IF where SP says so, R337), and PC
set to the vector. -/
def State.dispatch (s : State) (i : Fin 5) : State :=
  let s1 := { s with ime := false, iflag := s.iflag &&& ~~~(1#5 <<< i.val) }.push16 s.pc
  { s1 with pc := vectorOf i }

/-- The source dispatched of those pending (R335): the lowest-numbered. -/
def lowestPending (p : BitVec 5) : Option (Fin 5) :=
  if p.getLsbD 0 then some 0
  else if p.getLsbD 1 then some 1
  else if p.getLsbD 2 then some 2
  else if p.getLsbD 3 then some 3
  else if p.getLsbD 4 then some 4
  else none

/-- The return from an interrupt (R280): PC popped, IME set at once. -/
def State.returnFromInterrupt (s : State) : State := { s.dropWord with pc := s.popValue, ime := true }

/-- `raise IllegalOpcode(op, addr)` (R305, R345): the core is locked and the fault recorded; nothing else is written. -/
def State.raiseIllegal (s : State) (op : Byte) (addr : Word) : State :=
  { s with locked := true, fault := some { op := op, addr := addr } }

/-- The end of every legal instruction: the count CYCLES gives the row is reported (R320, R383). `taken` is the path of a
conditional instruction, and true for every other. -/
def State.retire (s : State) (key : Nat) (taken : Bool) (k : Nat) : Result :=
  .next (s.report (cyclesFor s.params key taken k))

end Sys2Proof.Machine
end

