-- ==== Sys2Proof/Machine/Operands.lean ====
section
/-! DEFINITION. The operand forms (spec/40_loads.md R140, spec/41_alu8.md R180, spec/43_rotate_bit.md R244), the conditions (spec/44_control.md R270), and
the shared operations every instruction family is a line over. Each operation here works on a state whose PC already stands
past the instruction's bytes (`State.advance`); none writes a flag or a register its rule does not name. -/

namespace Sys2Proof.Machine

/-- `get()` of the operand field `r` (R104, R140, R244). -/
def State.readLoc (s : State) : Loc → Byte
  | .reg r => s.getReg r
  | .atHL => s.memRead s.hl

/-- `put(v)` of the operand field `r` (R104, R140, R244). -/
def State.writeLoc (s : State) (l : Loc) (v : Byte) : State :=
  match l with
  | .reg r => s.setReg r v
  | .atHL => s.memWrite s.hl v

/-- The address `0xFF00 + n` of the high page (R110, R152-R155). -/
def highPage (n : Byte) : Word := 0xFF00 + zext16 n

/-- `cond(cc)` (R270). -/
def State.cond (s : State) : Cond → Bool
  | .nz => !s.flags.z
  | .z => s.flags.z
  | .nc => !s.flags.c
  | .c => s.flags.c

/-- LD between operand fields (R141, R143, R144): the source is read, with HL as it is, then the destination is written. -/
def State.move (s : State) (dst src : Loc) : State := s.writeLoc dst (s.readLoc src)

/-- An 8-bit load of A from memory (R146-R157). -/
def State.loadA (s : State) (addr : Word) : State := { s with a := s.memRead addr }

/-- An 8-bit store of A to memory (R148-R159). -/
def State.storeA (s : State) (addr : Word) : State := s.memWrite addr s.a

/-- The ALU form: A and F from A, the operand byte and the old C (R180-R205). -/
def State.alu (s : State) (op : AluOp) (v : Byte) : State :=
  { s with a := (aluResult op s.a v s.flags.c).1, flags := (aluResult op s.a v s.flags.c).2 }

/-- The ALU form on a register or (HL) (R180). -/
def State.aluLoc (s : State) (op : AluOp) (l : Loc) : State := s.alu op (s.readLoc l)

/-- A read-modify-write of an operand whose result and flags come from `r` (R206-R209, R244): the operand is written, then F. -/
def State.putWithFlags (s : State) (l : Loc) (r : Byte × Flags) : State := { s.writeLoc l r.1 with flags := r.2 }

/-- INC r and INC (HL) (R206, R207). -/
def State.inc (s : State) (l : Loc) : State := s.putWithFlags l (inc8 (s.readLoc l) s.flags)

/-- DEC r and DEC (HL) (R208, R209). -/
def State.dec (s : State) (l : Loc) : State := s.putWithFlags l (dec8 (s.readLoc l) s.flags)

/-- A CB rotate, shift or SWAP (R244). -/
def State.rot (s : State) (op : RotOp) (l : Loc) : State :=
  let r := shift8 op (s.readLoc l) s.flags.c
  s.putWithFlags l (r.1, shiftFlags r)

/-- RLCA, RRCA, RLA, RRA (R240-R243). -/
def State.rotA (s : State) (op : RotOp) : State :=
  let r := shift8 op s.a s.flags.c
  { s with a := r.1, flags := accShiftFlags r }

/-- BIT b (R261, R262): the operand is read, only F is written. -/
def State.bitTest (s : State) (b : Nat) (l : Loc) : State := { s with flags := bitFlags (s.readLoc l) b s.flags }

/-- RES b (R263, R264). -/
def State.bitReset (s : State) (b : Nat) (l : Loc) : State := s.writeLoc l (s.readLoc l &&& ~~~bitMask b)

/-- SET b (R265, R266). -/
def State.bitSet (s : State) (b : Nat) (l : Loc) : State := s.writeLoc l (s.readLoc l ||| bitMask b)

/-- ADD HL,rr (R220). -/
def State.addHL (s : State) (v : Word) : State :=
  { s.setHL (add16 s.hl v s.flags).1 with flags := (add16 s.hl v s.flags).2 }

/-- DAA (R210). -/
def State.daa (s : State) : State := { s with a := (daa8 s.a s.flags).1, flags := (daa8 s.a s.flags).2 }

/-- CPL (R211): A is inverted, N and H are set, Z and C kept. -/
def State.cpl (s : State) : State := { s with a := ~~~s.a, flags := { s.flags with n := true, h := true } }

/-- SCF (R212): Z is kept. -/
def State.scf (s : State) : State := { s with flags := { s.flags with n := false, h := false, c := true } }

/-- CCF (R213): C is inverted, Z kept. -/
def State.ccf (s : State) : State := { s with flags := { s.flags with n := false, h := false, c := !s.flags.c } }

/-- ADD SP,e (R223). -/
def State.addSP (s : State) (e : Byte) : State := { s with sp := (addSigned s.sp e).1, flags := (addSigned s.sp e).2 }

/-- LD HL,SP+e (R224): SP is kept. -/
def State.loadHLSP (s : State) (e : Byte) : State :=
  { s.setHL (addSigned s.sp e).1 with flags := (addSigned s.sp e).2 }

/-- `LD (nn),SP` (R163): the low byte at nn, then the high byte at nn+1. -/
def State.storeSP (s : State) (nn : Word) : State := (s.memWrite nn (loByte s.sp)).memWrite (nn + 1) (hiByte s.sp)

/-- A jump (R271). -/
def State.jump (s : State) (target : Word) : State := { s with pc := target }

/-- A relative jump from the address past the instruction (R274). -/
def State.jumpRel (s : State) (e : Byte) : State := { s with pc := s.pc + sext16 e }

/-- A call: the return address pushed, then the jump (R276, R281). -/
def State.call (s : State) (target : Word) : State := { s.push16 s.pc with pc := target }

/-- A return: PC popped (R278). -/
def State.ret (s : State) : State := { s.dropWord with pc := s.popValue }

/-- A conditional instruction (R270): `taken` is done when the condition holds, nothing when it does not. The condition is read before. -/
def State.whenCond (s : State) (cc : Cond) (taken : State → State) : State := if s.cond cc then taken s else s

/-- The end of a conditional instruction: the count is that of the path taken (R270, R383). -/
def State.retireCond (s : State) (key : Nat) (taken : Bool) (k kNot : Nat) : Result :=
  s.retire key taken (if taken then k else kNot)

/-- DI (R301). -/
def State.disableInterrupts (s : State) : State := { s with ime := false }

/-- EI (R304): IME is set at once. -/
def State.enableInterrupts (s : State) : State := { s with ime := true }

/-- HALT (R302): with IME = 0 and a request pending the halt bug is set and the core does not halt; otherwise it halts. -/
def State.halt (s : State) : State :=
  if s.ime = false ∧ s.pending ≠ 0 then { s with haltBug := true } else { s with halted := true }

/-- STOP (R303): DIV and its accumulator are cleared and the core stops. -/
def State.stop (s : State) : State := { s with div := 0, divAcc := 0, stopped := true }

/-- POP rr (R166, R167): SP moves past the word, and the pair takes its value. -/
def State.pop (s : State) (rr : StackPair) : State := s.dropWord.setStackPair rr s.popValue

end Sys2Proof.Machine
end

