-- ==== Sys2Proof/Machine/Alu16.lean ====
section
/-! DEFINITION. The 16-bit arithmetic (spec/42_alu16.md R220-R224), one definition per row of the opcode
table: PC moves past the instruction's bytes, the shared operation is done, and the row's count of R383 is reported. -/

namespace Sys2Proof.Machine

/-- INC BC (R221). -/
def exec_inc_bc (s : State) : Result := ((s.advance 1).setPair .bc (s.getPair .bc + 1)).retire 0x03 true 8

/-- ADD HL,BC (R220). -/
def exec_add_hl_bc (s : State) : Result := ((s.advance 1).addHL (s.getPair .bc)).retire 0x09 true 8

/-- DEC BC (R222). -/
def exec_dec_bc (s : State) : Result := ((s.advance 1).setPair .bc (s.getPair .bc - 1)).retire 0x0B true 8

/-- INC DE (R221). -/
def exec_inc_de (s : State) : Result := ((s.advance 1).setPair .de (s.getPair .de + 1)).retire 0x13 true 8

/-- ADD HL,DE (R220). -/
def exec_add_hl_de (s : State) : Result := ((s.advance 1).addHL (s.getPair .de)).retire 0x19 true 8

/-- DEC DE (R222). -/
def exec_dec_de (s : State) : Result := ((s.advance 1).setPair .de (s.getPair .de - 1)).retire 0x1B true 8

/-- INC HL (R221). -/
def exec_inc_hl (s : State) : Result := ((s.advance 1).setPair .hl (s.getPair .hl + 1)).retire 0x23 true 8

/-- ADD HL,HL (R220). -/
def exec_add_hl_hl (s : State) : Result := ((s.advance 1).addHL (s.getPair .hl)).retire 0x29 true 8

/-- DEC HL (R222). -/
def exec_dec_hl (s : State) : Result := ((s.advance 1).setPair .hl (s.getPair .hl - 1)).retire 0x2B true 8

/-- INC SP (R221). -/
def exec_inc_sp (s : State) : Result := ((s.advance 1).setPair .sp (s.getPair .sp + 1)).retire 0x33 true 8

/-- ADD HL,SP (R220). -/
def exec_add_hl_sp (s : State) : Result := ((s.advance 1).addHL (s.getPair .sp)).retire 0x39 true 8

/-- DEC SP (R222). -/
def exec_dec_sp (s : State) : Result := ((s.advance 1).setPair .sp (s.getPair .sp - 1)).retire 0x3B true 8

/-- ADD SP,e (R223). -/
def exec_add_sp_e (e : Byte) (s : State) : Result := ((s.advance 2).addSP e).retire 0xE8 true 16

/-- LD HL,SP+e (R224). -/
def exec_ld_hl_sp_e (e : Byte) (s : State) : Result := ((s.advance 2).loadHLSP e).retire 0xF8 true 12

end Sys2Proof.Machine
end

