-- ==== Sys2Proof/Machine/Alu8.lean ====
section
/-! DEFINITION. The 8-bit arithmetic and logic (spec/41_alu8.md R182-R213), one definition per row of the opcode
table: PC moves past the instruction's bytes, the shared operation is done, and the row's count of R383 is reported. -/

namespace Sys2Proof.Machine

/-- INC B (R206). -/
def exec_inc_b (s : State) : Result := ((s.advance 1).inc (.reg .b)).retire 0x04 true 4

/-- DEC B (R208). -/
def exec_dec_b (s : State) : Result := ((s.advance 1).dec (.reg .b)).retire 0x05 true 4

/-- INC C (R206). -/
def exec_inc_c (s : State) : Result := ((s.advance 1).inc (.reg .c)).retire 0x0C true 4

/-- DEC C (R208). -/
def exec_dec_c (s : State) : Result := ((s.advance 1).dec (.reg .c)).retire 0x0D true 4

/-- INC D (R206). -/
def exec_inc_d (s : State) : Result := ((s.advance 1).inc (.reg .d)).retire 0x14 true 4

/-- DEC D (R208). -/
def exec_dec_d (s : State) : Result := ((s.advance 1).dec (.reg .d)).retire 0x15 true 4

/-- INC E (R206). -/
def exec_inc_e (s : State) : Result := ((s.advance 1).inc (.reg .e)).retire 0x1C true 4

/-- DEC E (R208). -/
def exec_dec_e (s : State) : Result := ((s.advance 1).dec (.reg .e)).retire 0x1D true 4

/-- INC H (R206). -/
def exec_inc_h (s : State) : Result := ((s.advance 1).inc (.reg .h)).retire 0x24 true 4

/-- DEC H (R208). -/
def exec_dec_h (s : State) : Result := ((s.advance 1).dec (.reg .h)).retire 0x25 true 4

/-- DAA (R210). -/
def exec_daa (s : State) : Result := ((s.advance 1).daa).retire 0x27 true 4

/-- INC L (R206). -/
def exec_inc_l (s : State) : Result := ((s.advance 1).inc (.reg .l)).retire 0x2C true 4

/-- DEC L (R208). -/
def exec_dec_l (s : State) : Result := ((s.advance 1).dec (.reg .l)).retire 0x2D true 4

/-- CPL (R211). -/
def exec_cpl (s : State) : Result := ((s.advance 1).cpl).retire 0x2F true 4

/-- INC (HL) (R207). -/
def exec_inc_atHL (s : State) : Result := ((s.advance 1).inc .atHL).retire 0x34 true 12

/-- DEC (HL) (R209). -/
def exec_dec_atHL (s : State) : Result := ((s.advance 1).dec .atHL).retire 0x35 true 12

/-- SCF (R212). -/
def exec_scf (s : State) : Result := ((s.advance 1).scf).retire 0x37 true 4

/-- INC A (R206). -/
def exec_inc_a (s : State) : Result := ((s.advance 1).inc (.reg .a)).retire 0x3C true 4

/-- DEC A (R208). -/
def exec_dec_a (s : State) : Result := ((s.advance 1).dec (.reg .a)).retire 0x3D true 4

/-- CCF (R213). -/
def exec_ccf (s : State) : Result := ((s.advance 1).ccf).retire 0x3F true 4

/-- ADD A,B (R182). -/
def exec_add_a_b (s : State) : Result := ((s.advance 1).aluLoc .add (.reg .b)).retire 0x80 true 4

/-- ADD A,C (R182). -/
def exec_add_a_c (s : State) : Result := ((s.advance 1).aluLoc .add (.reg .c)).retire 0x81 true 4

/-- ADD A,D (R182). -/
def exec_add_a_d (s : State) : Result := ((s.advance 1).aluLoc .add (.reg .d)).retire 0x82 true 4

/-- ADD A,E (R182). -/
def exec_add_a_e (s : State) : Result := ((s.advance 1).aluLoc .add (.reg .e)).retire 0x83 true 4

/-- ADD A,H (R182). -/
def exec_add_a_h (s : State) : Result := ((s.advance 1).aluLoc .add (.reg .h)).retire 0x84 true 4

/-- ADD A,L (R182). -/
def exec_add_a_l (s : State) : Result := ((s.advance 1).aluLoc .add (.reg .l)).retire 0x85 true 4

/-- ADD A,(HL) (R183). -/
def exec_add_a_atHL (s : State) : Result := ((s.advance 1).aluLoc .add .atHL).retire 0x86 true 8

/-- ADD A,A (R182). -/
def exec_add_a_a (s : State) : Result := ((s.advance 1).aluLoc .add (.reg .a)).retire 0x87 true 4

/-- ADC A,B (R185). -/
def exec_adc_a_b (s : State) : Result := ((s.advance 1).aluLoc .adc (.reg .b)).retire 0x88 true 4

/-- ADC A,C (R185). -/
def exec_adc_a_c (s : State) : Result := ((s.advance 1).aluLoc .adc (.reg .c)).retire 0x89 true 4

/-- ADC A,D (R185). -/
def exec_adc_a_d (s : State) : Result := ((s.advance 1).aluLoc .adc (.reg .d)).retire 0x8A true 4

/-- ADC A,E (R185). -/
def exec_adc_a_e (s : State) : Result := ((s.advance 1).aluLoc .adc (.reg .e)).retire 0x8B true 4

/-- ADC A,H (R185). -/
def exec_adc_a_h (s : State) : Result := ((s.advance 1).aluLoc .adc (.reg .h)).retire 0x8C true 4

/-- ADC A,L (R185). -/
def exec_adc_a_l (s : State) : Result := ((s.advance 1).aluLoc .adc (.reg .l)).retire 0x8D true 4

/-- ADC A,(HL) (R186). -/
def exec_adc_a_atHL (s : State) : Result := ((s.advance 1).aluLoc .adc .atHL).retire 0x8E true 8

/-- ADC A,A (R185). -/
def exec_adc_a_a (s : State) : Result := ((s.advance 1).aluLoc .adc (.reg .a)).retire 0x8F true 4

/-- SUB B (R188). -/
def exec_sub_b (s : State) : Result := ((s.advance 1).aluLoc .sub (.reg .b)).retire 0x90 true 4

/-- SUB C (R188). -/
def exec_sub_c (s : State) : Result := ((s.advance 1).aluLoc .sub (.reg .c)).retire 0x91 true 4

/-- SUB D (R188). -/
def exec_sub_d (s : State) : Result := ((s.advance 1).aluLoc .sub (.reg .d)).retire 0x92 true 4

/-- SUB E (R188). -/
def exec_sub_e (s : State) : Result := ((s.advance 1).aluLoc .sub (.reg .e)).retire 0x93 true 4

/-- SUB H (R188). -/
def exec_sub_h (s : State) : Result := ((s.advance 1).aluLoc .sub (.reg .h)).retire 0x94 true 4

/-- SUB L (R188). -/
def exec_sub_l (s : State) : Result := ((s.advance 1).aluLoc .sub (.reg .l)).retire 0x95 true 4

/-- SUB (HL) (R189). -/
def exec_sub_atHL (s : State) : Result := ((s.advance 1).aluLoc .sub .atHL).retire 0x96 true 8

/-- SUB A (R188). -/
def exec_sub_a (s : State) : Result := ((s.advance 1).aluLoc .sub (.reg .a)).retire 0x97 true 4

/-- SBC A,B (R191). -/
def exec_sbc_a_b (s : State) : Result := ((s.advance 1).aluLoc .sbc (.reg .b)).retire 0x98 true 4

/-- SBC A,C (R191). -/
def exec_sbc_a_c (s : State) : Result := ((s.advance 1).aluLoc .sbc (.reg .c)).retire 0x99 true 4

/-- SBC A,D (R191). -/
def exec_sbc_a_d (s : State) : Result := ((s.advance 1).aluLoc .sbc (.reg .d)).retire 0x9A true 4

/-- SBC A,E (R191). -/
def exec_sbc_a_e (s : State) : Result := ((s.advance 1).aluLoc .sbc (.reg .e)).retire 0x9B true 4

/-- SBC A,H (R191). -/
def exec_sbc_a_h (s : State) : Result := ((s.advance 1).aluLoc .sbc (.reg .h)).retire 0x9C true 4

/-- SBC A,L (R191). -/
def exec_sbc_a_l (s : State) : Result := ((s.advance 1).aluLoc .sbc (.reg .l)).retire 0x9D true 4

/-- SBC A,(HL) (R192). -/
def exec_sbc_a_atHL (s : State) : Result := ((s.advance 1).aluLoc .sbc .atHL).retire 0x9E true 8

/-- SBC A,A (R191). -/
def exec_sbc_a_a (s : State) : Result := ((s.advance 1).aluLoc .sbc (.reg .a)).retire 0x9F true 4

/-- AND B (R194). -/
def exec_and_b (s : State) : Result := ((s.advance 1).aluLoc .and (.reg .b)).retire 0xA0 true 4

/-- AND C (R194). -/
def exec_and_c (s : State) : Result := ((s.advance 1).aluLoc .and (.reg .c)).retire 0xA1 true 4

/-- AND D (R194). -/
def exec_and_d (s : State) : Result := ((s.advance 1).aluLoc .and (.reg .d)).retire 0xA2 true 4

/-- AND E (R194). -/
def exec_and_e (s : State) : Result := ((s.advance 1).aluLoc .and (.reg .e)).retire 0xA3 true 4

/-- AND H (R194). -/
def exec_and_h (s : State) : Result := ((s.advance 1).aluLoc .and (.reg .h)).retire 0xA4 true 4

/-- AND L (R194). -/
def exec_and_l (s : State) : Result := ((s.advance 1).aluLoc .and (.reg .l)).retire 0xA5 true 4

/-- AND (HL) (R195). -/
def exec_and_atHL (s : State) : Result := ((s.advance 1).aluLoc .and .atHL).retire 0xA6 true 8

/-- AND A (R194). -/
def exec_and_a (s : State) : Result := ((s.advance 1).aluLoc .and (.reg .a)).retire 0xA7 true 4

/-- XOR B (R197). -/
def exec_xor_b (s : State) : Result := ((s.advance 1).aluLoc .xor (.reg .b)).retire 0xA8 true 4

/-- XOR C (R197). -/
def exec_xor_c (s : State) : Result := ((s.advance 1).aluLoc .xor (.reg .c)).retire 0xA9 true 4

/-- XOR D (R197). -/
def exec_xor_d (s : State) : Result := ((s.advance 1).aluLoc .xor (.reg .d)).retire 0xAA true 4

/-- XOR E (R197). -/
def exec_xor_e (s : State) : Result := ((s.advance 1).aluLoc .xor (.reg .e)).retire 0xAB true 4

/-- XOR H (R197). -/
def exec_xor_h (s : State) : Result := ((s.advance 1).aluLoc .xor (.reg .h)).retire 0xAC true 4

/-- XOR L (R197). -/
def exec_xor_l (s : State) : Result := ((s.advance 1).aluLoc .xor (.reg .l)).retire 0xAD true 4

/-- XOR (HL) (R198). -/
def exec_xor_atHL (s : State) : Result := ((s.advance 1).aluLoc .xor .atHL).retire 0xAE true 8

/-- XOR A (R197). -/
def exec_xor_a (s : State) : Result := ((s.advance 1).aluLoc .xor (.reg .a)).retire 0xAF true 4

/-- OR B (R200). -/
def exec_or_b (s : State) : Result := ((s.advance 1).aluLoc .or (.reg .b)).retire 0xB0 true 4

/-- OR C (R200). -/
def exec_or_c (s : State) : Result := ((s.advance 1).aluLoc .or (.reg .c)).retire 0xB1 true 4

/-- OR D (R200). -/
def exec_or_d (s : State) : Result := ((s.advance 1).aluLoc .or (.reg .d)).retire 0xB2 true 4

/-- OR E (R200). -/
def exec_or_e (s : State) : Result := ((s.advance 1).aluLoc .or (.reg .e)).retire 0xB3 true 4

/-- OR H (R200). -/
def exec_or_h (s : State) : Result := ((s.advance 1).aluLoc .or (.reg .h)).retire 0xB4 true 4

/-- OR L (R200). -/
def exec_or_l (s : State) : Result := ((s.advance 1).aluLoc .or (.reg .l)).retire 0xB5 true 4

/-- OR (HL) (R201). -/
def exec_or_atHL (s : State) : Result := ((s.advance 1).aluLoc .or .atHL).retire 0xB6 true 8

/-- OR A (R200). -/
def exec_or_a (s : State) : Result := ((s.advance 1).aluLoc .or (.reg .a)).retire 0xB7 true 4

/-- CP B (R203). -/
def exec_cp_b (s : State) : Result := ((s.advance 1).aluLoc .cp (.reg .b)).retire 0xB8 true 4

/-- CP C (R203). -/
def exec_cp_c (s : State) : Result := ((s.advance 1).aluLoc .cp (.reg .c)).retire 0xB9 true 4

/-- CP D (R203). -/
def exec_cp_d (s : State) : Result := ((s.advance 1).aluLoc .cp (.reg .d)).retire 0xBA true 4

/-- CP E (R203). -/
def exec_cp_e (s : State) : Result := ((s.advance 1).aluLoc .cp (.reg .e)).retire 0xBB true 4

/-- CP H (R203). -/
def exec_cp_h (s : State) : Result := ((s.advance 1).aluLoc .cp (.reg .h)).retire 0xBC true 4

/-- CP L (R203). -/
def exec_cp_l (s : State) : Result := ((s.advance 1).aluLoc .cp (.reg .l)).retire 0xBD true 4

/-- CP (HL) (R204). -/
def exec_cp_atHL (s : State) : Result := ((s.advance 1).aluLoc .cp .atHL).retire 0xBE true 8

/-- CP A (R203). -/
def exec_cp_a (s : State) : Result := ((s.advance 1).aluLoc .cp (.reg .a)).retire 0xBF true 4

/-- ADD A,n (R184). -/
def exec_add_a_n (n : Byte) (s : State) : Result := ((s.advance 2).alu .add n).retire 0xC6 true 8

/-- ADC A,n (R187). -/
def exec_adc_a_n (n : Byte) (s : State) : Result := ((s.advance 2).alu .adc n).retire 0xCE true 8

/-- SUB n (R190). -/
def exec_sub_n (n : Byte) (s : State) : Result := ((s.advance 2).alu .sub n).retire 0xD6 true 8

/-- SBC A,n (R193). -/
def exec_sbc_a_n (n : Byte) (s : State) : Result := ((s.advance 2).alu .sbc n).retire 0xDE true 8

/-- AND n (R196). -/
def exec_and_n (n : Byte) (s : State) : Result := ((s.advance 2).alu .and n).retire 0xE6 true 8

/-- XOR n (R199). -/
def exec_xor_n (n : Byte) (s : State) : Result := ((s.advance 2).alu .xor n).retire 0xEE true 8

/-- OR n (R202). -/
def exec_or_n (n : Byte) (s : State) : Result := ((s.advance 2).alu .or n).retire 0xF6 true 8

/-- CP n (R205). -/
def exec_cp_n (n : Byte) (s : State) : Result := ((s.advance 2).alu .cp n).retire 0xFE true 8

end Sys2Proof.Machine
end

