-- ==== Sys2Proof/Machine/Control.lean ====
section
/-! DEFINITION. The jumps, calls, returns and restarts (spec/44_control.md R271-R281), one definition per row of the opcode
table: PC moves past the instruction's bytes, the shared operation is done, and the row's count of R383 is reported. -/

namespace Sys2Proof.Machine

/-- JR e (R274). -/
def exec_jr_e (e : Byte) (s : State) : Result := ((s.advance 2).jumpRel e).retire 0x18 true 12

/-- JR NZ,e (R275). -/
def exec_jr_nz_e (e : Byte) (s : State) : Result := ((s.advance 2).whenCond .nz fun t => t.jumpRel e).retireCond 0x20 (s.cond .nz) 12 8

/-- JR Z,e (R275). -/
def exec_jr_z_e (e : Byte) (s : State) : Result := ((s.advance 2).whenCond .z fun t => t.jumpRel e).retireCond 0x28 (s.cond .z) 12 8

/-- JR NC,e (R275). -/
def exec_jr_nc_e (e : Byte) (s : State) : Result := ((s.advance 2).whenCond .nc fun t => t.jumpRel e).retireCond 0x30 (s.cond .nc) 12 8

/-- JR C,e (R275). -/
def exec_jr_c_e (e : Byte) (s : State) : Result := ((s.advance 2).whenCond .c fun t => t.jumpRel e).retireCond 0x38 (s.cond .c) 12 8

/-- RET NZ (R279). -/
def exec_ret_nz (s : State) : Result := ((s.advance 1).whenCond .nz fun t => t.ret).retireCond 0xC0 (s.cond .nz) 20 8

/-- JP NZ,nn (R272). -/
def exec_jp_nz_nn (nn : Word) (s : State) : Result := ((s.advance 3).whenCond .nz fun t => t.jump nn).retireCond 0xC2 (s.cond .nz) 16 12

/-- JP nn (R271). -/
def exec_jp_nn (nn : Word) (s : State) : Result := ((s.advance 3).jump nn).retire 0xC3 true 16

/-- CALL NZ,nn (R277). -/
def exec_call_nz_nn (nn : Word) (s : State) : Result := ((s.advance 3).whenCond .nz fun t => t.call nn).retireCond 0xC4 (s.cond .nz) 24 12

/-- RST 00H (R281). -/
def exec_rst_00h (s : State) : Result := ((s.advance 1).call 0x0000).retire 0xC7 true 16

/-- RET Z (R279). -/
def exec_ret_z (s : State) : Result := ((s.advance 1).whenCond .z fun t => t.ret).retireCond 0xC8 (s.cond .z) 20 8

/-- RET (R278). -/
def exec_ret (s : State) : Result := ((s.advance 1).ret).retire 0xC9 true 16

/-- JP Z,nn (R272). -/
def exec_jp_z_nn (nn : Word) (s : State) : Result := ((s.advance 3).whenCond .z fun t => t.jump nn).retireCond 0xCA (s.cond .z) 16 12

/-- CALL Z,nn (R277). -/
def exec_call_z_nn (nn : Word) (s : State) : Result := ((s.advance 3).whenCond .z fun t => t.call nn).retireCond 0xCC (s.cond .z) 24 12

/-- CALL nn (R276). -/
def exec_call_nn (nn : Word) (s : State) : Result := ((s.advance 3).call nn).retire 0xCD true 24

/-- RST 08H (R281). -/
def exec_rst_08h (s : State) : Result := ((s.advance 1).call 0x0008).retire 0xCF true 16

/-- RET NC (R279). -/
def exec_ret_nc (s : State) : Result := ((s.advance 1).whenCond .nc fun t => t.ret).retireCond 0xD0 (s.cond .nc) 20 8

/-- JP NC,nn (R272). -/
def exec_jp_nc_nn (nn : Word) (s : State) : Result := ((s.advance 3).whenCond .nc fun t => t.jump nn).retireCond 0xD2 (s.cond .nc) 16 12

/-- CALL NC,nn (R277). -/
def exec_call_nc_nn (nn : Word) (s : State) : Result := ((s.advance 3).whenCond .nc fun t => t.call nn).retireCond 0xD4 (s.cond .nc) 24 12

/-- RST 10H (R281). -/
def exec_rst_10h (s : State) : Result := ((s.advance 1).call 0x0010).retire 0xD7 true 16

/-- RET C (R279). -/
def exec_ret_c (s : State) : Result := ((s.advance 1).whenCond .c fun t => t.ret).retireCond 0xD8 (s.cond .c) 20 8

/-- RETI (R280). -/
def exec_reti (s : State) : Result := ((s.advance 1).returnFromInterrupt).retire 0xD9 true 16

/-- JP C,nn (R272). -/
def exec_jp_c_nn (nn : Word) (s : State) : Result := ((s.advance 3).whenCond .c fun t => t.jump nn).retireCond 0xDA (s.cond .c) 16 12

/-- CALL C,nn (R277). -/
def exec_call_c_nn (nn : Word) (s : State) : Result := ((s.advance 3).whenCond .c fun t => t.call nn).retireCond 0xDC (s.cond .c) 24 12

/-- RST 18H (R281). -/
def exec_rst_18h (s : State) : Result := ((s.advance 1).call 0x0018).retire 0xDF true 16

/-- RST 20H (R281). -/
def exec_rst_20h (s : State) : Result := ((s.advance 1).call 0x0020).retire 0xE7 true 16

/-- JP HL (R273). -/
def exec_jp_hl (s : State) : Result := ((s.advance 1).jump s.hl).retire 0xE9 true 4

/-- RST 28H (R281). -/
def exec_rst_28h (s : State) : Result := ((s.advance 1).call 0x0028).retire 0xEF true 16

/-- RST 30H (R281). -/
def exec_rst_30h (s : State) : Result := ((s.advance 1).call 0x0030).retire 0xF7 true 16

/-- RST 38H (R281). -/
def exec_rst_38h (s : State) : Result := ((s.advance 1).call 0x0038).retire 0xFF true 16

end Sys2Proof.Machine
end

