-- ==== Sys2Proof/Machine/Loads.lean ====
section
/-! DEFINITION. The 8-bit and 16-bit loads and the stack instructions (spec/40_loads.md R141-R159, R162-R167), one definition per row of the opcode
table: PC moves past the instruction's bytes, the shared operation is done, and the row's count of R383 is reported. -/

namespace Sys2Proof.Machine

/-- LD BC,nn (R162). -/
def exec_ld_bc_nn (nn : Word) (s : State) : Result := ((s.advance 3).setPair .bc nn).retire 0x01 true 12

/-- LD (BC),A (R148). -/
def exec_ld_atBC_a (s : State) : Result := ((s.advance 1).storeA s.bc).retire 0x02 true 8

/-- LD B,n (R142). -/
def exec_ld_b_n (n : Byte) (s : State) : Result := ((s.advance 2).writeLoc (.reg .b) n).retire 0x06 true 8

/-- LD (nn),SP (R163). -/
def exec_ld_atNN_sp (nn : Word) (s : State) : Result := ((s.advance 3).storeSP nn).retire 0x08 true 20

/-- LD A,(BC) (R146). -/
def exec_ld_a_atBC (s : State) : Result := ((s.advance 1).loadA s.bc).retire 0x0A true 8

/-- LD C,n (R142). -/
def exec_ld_c_n (n : Byte) (s : State) : Result := ((s.advance 2).writeLoc (.reg .c) n).retire 0x0E true 8

/-- LD DE,nn (R162). -/
def exec_ld_de_nn (nn : Word) (s : State) : Result := ((s.advance 3).setPair .de nn).retire 0x11 true 12

/-- LD (DE),A (R149). -/
def exec_ld_atDE_a (s : State) : Result := ((s.advance 1).storeA s.de).retire 0x12 true 8

/-- LD D,n (R142). -/
def exec_ld_d_n (n : Byte) (s : State) : Result := ((s.advance 2).writeLoc (.reg .d) n).retire 0x16 true 8

/-- LD A,(DE) (R147). -/
def exec_ld_a_atDE (s : State) : Result := ((s.advance 1).loadA s.de).retire 0x1A true 8

/-- LD E,n (R142). -/
def exec_ld_e_n (n : Byte) (s : State) : Result := ((s.advance 2).writeLoc (.reg .e) n).retire 0x1E true 8

/-- LD HL,nn (R162). -/
def exec_ld_hl_nn (nn : Word) (s : State) : Result := ((s.advance 3).setPair .hl nn).retire 0x21 true 12

/-- LD (HL+),A (R158). -/
def exec_ld_atHLI_a (s : State) : Result := (((s.advance 1).storeA s.hl).setHL (s.hl + 1)).retire 0x22 true 8

/-- LD H,n (R142). -/
def exec_ld_h_n (n : Byte) (s : State) : Result := ((s.advance 2).writeLoc (.reg .h) n).retire 0x26 true 8

/-- LD A,(HL+) (R156). -/
def exec_ld_a_atHLI (s : State) : Result := (((s.advance 1).loadA s.hl).setHL (s.hl + 1)).retire 0x2A true 8

/-- LD L,n (R142). -/
def exec_ld_l_n (n : Byte) (s : State) : Result := ((s.advance 2).writeLoc (.reg .l) n).retire 0x2E true 8

/-- LD SP,nn (R162). -/
def exec_ld_sp_nn (nn : Word) (s : State) : Result := ((s.advance 3).setPair .sp nn).retire 0x31 true 12

/-- LD (HL-),A (R159). -/
def exec_ld_atHLD_a (s : State) : Result := (((s.advance 1).storeA s.hl).setHL (s.hl - 1)).retire 0x32 true 8

/-- LD (HL),n (R145). -/
def exec_ld_atHL_n (n : Byte) (s : State) : Result := ((s.advance 2).writeLoc .atHL n).retire 0x36 true 12

/-- LD A,(HL-) (R157). -/
def exec_ld_a_atHLD (s : State) : Result := (((s.advance 1).loadA s.hl).setHL (s.hl - 1)).retire 0x3A true 8

/-- LD A,n (R142). -/
def exec_ld_a_n (n : Byte) (s : State) : Result := ((s.advance 2).writeLoc (.reg .a) n).retire 0x3E true 8

/-- LD B,B (R141). -/
def exec_ld_b_b (s : State) : Result := ((s.advance 1).move (.reg .b) (.reg .b)).retire 0x40 true 4

/-- LD B,C (R141). -/
def exec_ld_b_c (s : State) : Result := ((s.advance 1).move (.reg .b) (.reg .c)).retire 0x41 true 4

/-- LD B,D (R141). -/
def exec_ld_b_d (s : State) : Result := ((s.advance 1).move (.reg .b) (.reg .d)).retire 0x42 true 4

/-- LD B,E (R141). -/
def exec_ld_b_e (s : State) : Result := ((s.advance 1).move (.reg .b) (.reg .e)).retire 0x43 true 4

/-- LD B,H (R141). -/
def exec_ld_b_h (s : State) : Result := ((s.advance 1).move (.reg .b) (.reg .h)).retire 0x44 true 4

/-- LD B,L (R141). -/
def exec_ld_b_l (s : State) : Result := ((s.advance 1).move (.reg .b) (.reg .l)).retire 0x45 true 4

/-- LD B,(HL) (R143). -/
def exec_ld_b_atHL (s : State) : Result := ((s.advance 1).move (.reg .b) .atHL).retire 0x46 true 8

/-- LD B,A (R141). -/
def exec_ld_b_a (s : State) : Result := ((s.advance 1).move (.reg .b) (.reg .a)).retire 0x47 true 4

/-- LD C,B (R141). -/
def exec_ld_c_b (s : State) : Result := ((s.advance 1).move (.reg .c) (.reg .b)).retire 0x48 true 4

/-- LD C,C (R141). -/
def exec_ld_c_c (s : State) : Result := ((s.advance 1).move (.reg .c) (.reg .c)).retire 0x49 true 4

/-- LD C,D (R141). -/
def exec_ld_c_d (s : State) : Result := ((s.advance 1).move (.reg .c) (.reg .d)).retire 0x4A true 4

/-- LD C,E (R141). -/
def exec_ld_c_e (s : State) : Result := ((s.advance 1).move (.reg .c) (.reg .e)).retire 0x4B true 4

/-- LD C,H (R141). -/
def exec_ld_c_h (s : State) : Result := ((s.advance 1).move (.reg .c) (.reg .h)).retire 0x4C true 4

/-- LD C,L (R141). -/
def exec_ld_c_l (s : State) : Result := ((s.advance 1).move (.reg .c) (.reg .l)).retire 0x4D true 4

/-- LD C,(HL) (R143). -/
def exec_ld_c_atHL (s : State) : Result := ((s.advance 1).move (.reg .c) .atHL).retire 0x4E true 8

/-- LD C,A (R141). -/
def exec_ld_c_a (s : State) : Result := ((s.advance 1).move (.reg .c) (.reg .a)).retire 0x4F true 4

/-- LD D,B (R141). -/
def exec_ld_d_b (s : State) : Result := ((s.advance 1).move (.reg .d) (.reg .b)).retire 0x50 true 4

/-- LD D,C (R141). -/
def exec_ld_d_c (s : State) : Result := ((s.advance 1).move (.reg .d) (.reg .c)).retire 0x51 true 4

/-- LD D,D (R141). -/
def exec_ld_d_d (s : State) : Result := ((s.advance 1).move (.reg .d) (.reg .d)).retire 0x52 true 4

/-- LD D,E (R141). -/
def exec_ld_d_e (s : State) : Result := ((s.advance 1).move (.reg .d) (.reg .e)).retire 0x53 true 4

/-- LD D,H (R141). -/
def exec_ld_d_h (s : State) : Result := ((s.advance 1).move (.reg .d) (.reg .h)).retire 0x54 true 4

/-- LD D,L (R141). -/
def exec_ld_d_l (s : State) : Result := ((s.advance 1).move (.reg .d) (.reg .l)).retire 0x55 true 4

/-- LD D,(HL) (R143). -/
def exec_ld_d_atHL (s : State) : Result := ((s.advance 1).move (.reg .d) .atHL).retire 0x56 true 8

/-- LD D,A (R141). -/
def exec_ld_d_a (s : State) : Result := ((s.advance 1).move (.reg .d) (.reg .a)).retire 0x57 true 4

/-- LD E,B (R141). -/
def exec_ld_e_b (s : State) : Result := ((s.advance 1).move (.reg .e) (.reg .b)).retire 0x58 true 4

/-- LD E,C (R141). -/
def exec_ld_e_c (s : State) : Result := ((s.advance 1).move (.reg .e) (.reg .c)).retire 0x59 true 4

/-- LD E,D (R141). -/
def exec_ld_e_d (s : State) : Result := ((s.advance 1).move (.reg .e) (.reg .d)).retire 0x5A true 4

/-- LD E,E (R141). -/
def exec_ld_e_e (s : State) : Result := ((s.advance 1).move (.reg .e) (.reg .e)).retire 0x5B true 4

/-- LD E,H (R141). -/
def exec_ld_e_h (s : State) : Result := ((s.advance 1).move (.reg .e) (.reg .h)).retire 0x5C true 4

/-- LD E,L (R141). -/
def exec_ld_e_l (s : State) : Result := ((s.advance 1).move (.reg .e) (.reg .l)).retire 0x5D true 4

/-- LD E,(HL) (R143). -/
def exec_ld_e_atHL (s : State) : Result := ((s.advance 1).move (.reg .e) .atHL).retire 0x5E true 8

/-- LD E,A (R141). -/
def exec_ld_e_a (s : State) : Result := ((s.advance 1).move (.reg .e) (.reg .a)).retire 0x5F true 4

/-- LD H,B (R141). -/
def exec_ld_h_b (s : State) : Result := ((s.advance 1).move (.reg .h) (.reg .b)).retire 0x60 true 4

/-- LD H,C (R141). -/
def exec_ld_h_c (s : State) : Result := ((s.advance 1).move (.reg .h) (.reg .c)).retire 0x61 true 4

/-- LD H,D (R141). -/
def exec_ld_h_d (s : State) : Result := ((s.advance 1).move (.reg .h) (.reg .d)).retire 0x62 true 4

/-- LD H,E (R141). -/
def exec_ld_h_e (s : State) : Result := ((s.advance 1).move (.reg .h) (.reg .e)).retire 0x63 true 4

/-- LD H,H (R141). -/
def exec_ld_h_h (s : State) : Result := ((s.advance 1).move (.reg .h) (.reg .h)).retire 0x64 true 4

/-- LD H,L (R141). -/
def exec_ld_h_l (s : State) : Result := ((s.advance 1).move (.reg .h) (.reg .l)).retire 0x65 true 4

/-- LD H,(HL) (R143). -/
def exec_ld_h_atHL (s : State) : Result := ((s.advance 1).move (.reg .h) .atHL).retire 0x66 true 8

/-- LD H,A (R141). -/
def exec_ld_h_a (s : State) : Result := ((s.advance 1).move (.reg .h) (.reg .a)).retire 0x67 true 4

/-- LD L,B (R141). -/
def exec_ld_l_b (s : State) : Result := ((s.advance 1).move (.reg .l) (.reg .b)).retire 0x68 true 4

/-- LD L,C (R141). -/
def exec_ld_l_c (s : State) : Result := ((s.advance 1).move (.reg .l) (.reg .c)).retire 0x69 true 4

/-- LD L,D (R141). -/
def exec_ld_l_d (s : State) : Result := ((s.advance 1).move (.reg .l) (.reg .d)).retire 0x6A true 4

/-- LD L,E (R141). -/
def exec_ld_l_e (s : State) : Result := ((s.advance 1).move (.reg .l) (.reg .e)).retire 0x6B true 4

/-- LD L,H (R141). -/
def exec_ld_l_h (s : State) : Result := ((s.advance 1).move (.reg .l) (.reg .h)).retire 0x6C true 4

/-- LD L,L (R141). -/
def exec_ld_l_l (s : State) : Result := ((s.advance 1).move (.reg .l) (.reg .l)).retire 0x6D true 4

/-- LD L,(HL) (R143). -/
def exec_ld_l_atHL (s : State) : Result := ((s.advance 1).move (.reg .l) .atHL).retire 0x6E true 8

/-- LD L,A (R141). -/
def exec_ld_l_a (s : State) : Result := ((s.advance 1).move (.reg .l) (.reg .a)).retire 0x6F true 4

/-- LD (HL),B (R144). -/
def exec_ld_atHL_b (s : State) : Result := ((s.advance 1).move .atHL (.reg .b)).retire 0x70 true 8

/-- LD (HL),C (R144). -/
def exec_ld_atHL_c (s : State) : Result := ((s.advance 1).move .atHL (.reg .c)).retire 0x71 true 8

/-- LD (HL),D (R144). -/
def exec_ld_atHL_d (s : State) : Result := ((s.advance 1).move .atHL (.reg .d)).retire 0x72 true 8

/-- LD (HL),E (R144). -/
def exec_ld_atHL_e (s : State) : Result := ((s.advance 1).move .atHL (.reg .e)).retire 0x73 true 8

/-- LD (HL),H (R144). -/
def exec_ld_atHL_h (s : State) : Result := ((s.advance 1).move .atHL (.reg .h)).retire 0x74 true 8

/-- LD (HL),L (R144). -/
def exec_ld_atHL_l (s : State) : Result := ((s.advance 1).move .atHL (.reg .l)).retire 0x75 true 8

/-- LD (HL),A (R144). -/
def exec_ld_atHL_a (s : State) : Result := ((s.advance 1).move .atHL (.reg .a)).retire 0x77 true 8

/-- LD A,B (R141). -/
def exec_ld_a_b (s : State) : Result := ((s.advance 1).move (.reg .a) (.reg .b)).retire 0x78 true 4

/-- LD A,C (R141). -/
def exec_ld_a_c (s : State) : Result := ((s.advance 1).move (.reg .a) (.reg .c)).retire 0x79 true 4

/-- LD A,D (R141). -/
def exec_ld_a_d (s : State) : Result := ((s.advance 1).move (.reg .a) (.reg .d)).retire 0x7A true 4

/-- LD A,E (R141). -/
def exec_ld_a_e (s : State) : Result := ((s.advance 1).move (.reg .a) (.reg .e)).retire 0x7B true 4

/-- LD A,H (R141). -/
def exec_ld_a_h (s : State) : Result := ((s.advance 1).move (.reg .a) (.reg .h)).retire 0x7C true 4

/-- LD A,L (R141). -/
def exec_ld_a_l (s : State) : Result := ((s.advance 1).move (.reg .a) (.reg .l)).retire 0x7D true 4

/-- LD A,(HL) (R143). -/
def exec_ld_a_atHL (s : State) : Result := ((s.advance 1).move (.reg .a) .atHL).retire 0x7E true 8

/-- LD A,A (R141). -/
def exec_ld_a_a (s : State) : Result := ((s.advance 1).move (.reg .a) (.reg .a)).retire 0x7F true 4

/-- POP BC (R166). -/
def exec_pop_bc (s : State) : Result := ((s.advance 1).pop .bc).retire 0xC1 true 12

/-- PUSH BC (R165). -/
def exec_push_bc (s : State) : Result := ((s.advance 1).push16 (s.getStackPair .bc)).retire 0xC5 true 16

/-- POP DE (R166). -/
def exec_pop_de (s : State) : Result := ((s.advance 1).pop .de).retire 0xD1 true 12

/-- PUSH DE (R165). -/
def exec_push_de (s : State) : Result := ((s.advance 1).push16 (s.getStackPair .de)).retire 0xD5 true 16

/-- LDH (n),A (R153). -/
def exec_ldh_atN_a (n : Byte) (s : State) : Result := ((s.advance 2).storeA (highPage n)).retire 0xE0 true 12

/-- POP HL (R166). -/
def exec_pop_hl (s : State) : Result := ((s.advance 1).pop .hl).retire 0xE1 true 12

/-- LD (C),A (R155). -/
def exec_ld_atC_a (s : State) : Result := ((s.advance 1).storeA (highPage s.c)).retire 0xE2 true 8

/-- PUSH HL (R165). -/
def exec_push_hl (s : State) : Result := ((s.advance 1).push16 (s.getStackPair .hl)).retire 0xE5 true 16

/-- LD (nn),A (R151). -/
def exec_ld_atNN_a (nn : Word) (s : State) : Result := ((s.advance 3).storeA nn).retire 0xEA true 16

/-- LDH A,(n) (R152). -/
def exec_ldh_a_atN (n : Byte) (s : State) : Result := ((s.advance 2).loadA (highPage n)).retire 0xF0 true 12

/-- POP AF (R167). -/
def exec_pop_af (s : State) : Result := ((s.advance 1).pop .af).retire 0xF1 true 12

/-- LD A,(C) (R154). -/
def exec_ld_a_atC (s : State) : Result := ((s.advance 1).loadA (highPage s.c)).retire 0xF2 true 8

/-- PUSH AF (R165). -/
def exec_push_af (s : State) : Result := ((s.advance 1).push16 (s.getStackPair .af)).retire 0xF5 true 16

/-- LD SP,HL (R164). -/
def exec_ld_sp_hl (s : State) : Result := ((s.advance 1).setPair .sp s.hl).retire 0xF9 true 8

/-- LD A,(nn) (R150). -/
def exec_ld_a_atNN (nn : Word) (s : State) : Result := ((s.advance 3).loadA nn).retire 0xFA true 16

end Sys2Proof.Machine
end

