-- ==== Sys2Proof/Machine/RotateBit.lean ====
section
/-! DEFINITION. The rotates, shifts, SWAP and single-bit instructions (spec/43_rotate_bit.md R240-R266), one definition per row of the opcode
table: PC moves past the instruction's bytes, the shared operation is done, and the row's count of R383 is reported. -/

namespace Sys2Proof.Machine

/-- RLCA (R240). -/
def exec_rlca (s : State) : Result := ((s.advance 1).rotA .rlc).retire 0x07 true 4

/-- RRCA (R241). -/
def exec_rrca (s : State) : Result := ((s.advance 1).rotA .rrc).retire 0x0F true 4

/-- RLA (R242). -/
def exec_rla (s : State) : Result := ((s.advance 1).rotA .rl).retire 0x17 true 4

/-- RRA (R243). -/
def exec_rra (s : State) : Result := ((s.advance 1).rotA .rr).retire 0x1F true 4

/-- RLC B (R245). -/
def exec_rlc_b (s : State) : Result := ((s.advance 2).rot .rlc (.reg .b)).retire 0x100 true 8

/-- RLC C (R245). -/
def exec_rlc_c (s : State) : Result := ((s.advance 2).rot .rlc (.reg .c)).retire 0x101 true 8

/-- RLC D (R245). -/
def exec_rlc_d (s : State) : Result := ((s.advance 2).rot .rlc (.reg .d)).retire 0x102 true 8

/-- RLC E (R245). -/
def exec_rlc_e (s : State) : Result := ((s.advance 2).rot .rlc (.reg .e)).retire 0x103 true 8

/-- RLC H (R245). -/
def exec_rlc_h (s : State) : Result := ((s.advance 2).rot .rlc (.reg .h)).retire 0x104 true 8

/-- RLC L (R245). -/
def exec_rlc_l (s : State) : Result := ((s.advance 2).rot .rlc (.reg .l)).retire 0x105 true 8

/-- RLC (HL) (R246). -/
def exec_rlc_atHL (s : State) : Result := ((s.advance 2).rot .rlc .atHL).retire 0x106 true 16

/-- RLC A (R245). -/
def exec_rlc_a (s : State) : Result := ((s.advance 2).rot .rlc (.reg .a)).retire 0x107 true 8

/-- RRC B (R247). -/
def exec_rrc_b (s : State) : Result := ((s.advance 2).rot .rrc (.reg .b)).retire 0x108 true 8

/-- RRC C (R247). -/
def exec_rrc_c (s : State) : Result := ((s.advance 2).rot .rrc (.reg .c)).retire 0x109 true 8

/-- RRC D (R247). -/
def exec_rrc_d (s : State) : Result := ((s.advance 2).rot .rrc (.reg .d)).retire 0x10A true 8

/-- RRC E (R247). -/
def exec_rrc_e (s : State) : Result := ((s.advance 2).rot .rrc (.reg .e)).retire 0x10B true 8

/-- RRC H (R247). -/
def exec_rrc_h (s : State) : Result := ((s.advance 2).rot .rrc (.reg .h)).retire 0x10C true 8

/-- RRC L (R247). -/
def exec_rrc_l (s : State) : Result := ((s.advance 2).rot .rrc (.reg .l)).retire 0x10D true 8

/-- RRC (HL) (R248). -/
def exec_rrc_atHL (s : State) : Result := ((s.advance 2).rot .rrc .atHL).retire 0x10E true 16

/-- RRC A (R247). -/
def exec_rrc_a (s : State) : Result := ((s.advance 2).rot .rrc (.reg .a)).retire 0x10F true 8

/-- RL B (R249). -/
def exec_rl_b (s : State) : Result := ((s.advance 2).rot .rl (.reg .b)).retire 0x110 true 8

/-- RL C (R249). -/
def exec_rl_c (s : State) : Result := ((s.advance 2).rot .rl (.reg .c)).retire 0x111 true 8

/-- RL D (R249). -/
def exec_rl_d (s : State) : Result := ((s.advance 2).rot .rl (.reg .d)).retire 0x112 true 8

/-- RL E (R249). -/
def exec_rl_e (s : State) : Result := ((s.advance 2).rot .rl (.reg .e)).retire 0x113 true 8

/-- RL H (R249). -/
def exec_rl_h (s : State) : Result := ((s.advance 2).rot .rl (.reg .h)).retire 0x114 true 8

/-- RL L (R249). -/
def exec_rl_l (s : State) : Result := ((s.advance 2).rot .rl (.reg .l)).retire 0x115 true 8

/-- RL (HL) (R250). -/
def exec_rl_atHL (s : State) : Result := ((s.advance 2).rot .rl .atHL).retire 0x116 true 16

/-- RL A (R249). -/
def exec_rl_a (s : State) : Result := ((s.advance 2).rot .rl (.reg .a)).retire 0x117 true 8

/-- RR B (R251). -/
def exec_rr_b (s : State) : Result := ((s.advance 2).rot .rr (.reg .b)).retire 0x118 true 8

/-- RR C (R251). -/
def exec_rr_c (s : State) : Result := ((s.advance 2).rot .rr (.reg .c)).retire 0x119 true 8

/-- RR D (R251). -/
def exec_rr_d (s : State) : Result := ((s.advance 2).rot .rr (.reg .d)).retire 0x11A true 8

/-- RR E (R251). -/
def exec_rr_e (s : State) : Result := ((s.advance 2).rot .rr (.reg .e)).retire 0x11B true 8

/-- RR H (R251). -/
def exec_rr_h (s : State) : Result := ((s.advance 2).rot .rr (.reg .h)).retire 0x11C true 8

/-- RR L (R251). -/
def exec_rr_l (s : State) : Result := ((s.advance 2).rot .rr (.reg .l)).retire 0x11D true 8

/-- RR (HL) (R252). -/
def exec_rr_atHL (s : State) : Result := ((s.advance 2).rot .rr .atHL).retire 0x11E true 16

/-- RR A (R251). -/
def exec_rr_a (s : State) : Result := ((s.advance 2).rot .rr (.reg .a)).retire 0x11F true 8

/-- SLA B (R253). -/
def exec_sla_b (s : State) : Result := ((s.advance 2).rot .sla (.reg .b)).retire 0x120 true 8

/-- SLA C (R253). -/
def exec_sla_c (s : State) : Result := ((s.advance 2).rot .sla (.reg .c)).retire 0x121 true 8

/-- SLA D (R253). -/
def exec_sla_d (s : State) : Result := ((s.advance 2).rot .sla (.reg .d)).retire 0x122 true 8

/-- SLA E (R253). -/
def exec_sla_e (s : State) : Result := ((s.advance 2).rot .sla (.reg .e)).retire 0x123 true 8

/-- SLA H (R253). -/
def exec_sla_h (s : State) : Result := ((s.advance 2).rot .sla (.reg .h)).retire 0x124 true 8

/-- SLA L (R253). -/
def exec_sla_l (s : State) : Result := ((s.advance 2).rot .sla (.reg .l)).retire 0x125 true 8

/-- SLA (HL) (R254). -/
def exec_sla_atHL (s : State) : Result := ((s.advance 2).rot .sla .atHL).retire 0x126 true 16

/-- SLA A (R253). -/
def exec_sla_a (s : State) : Result := ((s.advance 2).rot .sla (.reg .a)).retire 0x127 true 8

/-- SRA B (R255). -/
def exec_sra_b (s : State) : Result := ((s.advance 2).rot .sra (.reg .b)).retire 0x128 true 8

/-- SRA C (R255). -/
def exec_sra_c (s : State) : Result := ((s.advance 2).rot .sra (.reg .c)).retire 0x129 true 8

/-- SRA D (R255). -/
def exec_sra_d (s : State) : Result := ((s.advance 2).rot .sra (.reg .d)).retire 0x12A true 8

/-- SRA E (R255). -/
def exec_sra_e (s : State) : Result := ((s.advance 2).rot .sra (.reg .e)).retire 0x12B true 8

/-- SRA H (R255). -/
def exec_sra_h (s : State) : Result := ((s.advance 2).rot .sra (.reg .h)).retire 0x12C true 8

/-- SRA L (R255). -/
def exec_sra_l (s : State) : Result := ((s.advance 2).rot .sra (.reg .l)).retire 0x12D true 8

/-- SRA (HL) (R256). -/
def exec_sra_atHL (s : State) : Result := ((s.advance 2).rot .sra .atHL).retire 0x12E true 16

/-- SRA A (R255). -/
def exec_sra_a (s : State) : Result := ((s.advance 2).rot .sra (.reg .a)).retire 0x12F true 8

/-- SWAP B (R259). -/
def exec_swap_b (s : State) : Result := ((s.advance 2).rot .swap (.reg .b)).retire 0x130 true 8

/-- SWAP C (R259). -/
def exec_swap_c (s : State) : Result := ((s.advance 2).rot .swap (.reg .c)).retire 0x131 true 8

/-- SWAP D (R259). -/
def exec_swap_d (s : State) : Result := ((s.advance 2).rot .swap (.reg .d)).retire 0x132 true 8

/-- SWAP E (R259). -/
def exec_swap_e (s : State) : Result := ((s.advance 2).rot .swap (.reg .e)).retire 0x133 true 8

/-- SWAP H (R259). -/
def exec_swap_h (s : State) : Result := ((s.advance 2).rot .swap (.reg .h)).retire 0x134 true 8

/-- SWAP L (R259). -/
def exec_swap_l (s : State) : Result := ((s.advance 2).rot .swap (.reg .l)).retire 0x135 true 8

/-- SWAP (HL) (R260). -/
def exec_swap_atHL (s : State) : Result := ((s.advance 2).rot .swap .atHL).retire 0x136 true 16

/-- SWAP A (R259). -/
def exec_swap_a (s : State) : Result := ((s.advance 2).rot .swap (.reg .a)).retire 0x137 true 8

/-- SRL B (R257). -/
def exec_srl_b (s : State) : Result := ((s.advance 2).rot .srl (.reg .b)).retire 0x138 true 8

/-- SRL C (R257). -/
def exec_srl_c (s : State) : Result := ((s.advance 2).rot .srl (.reg .c)).retire 0x139 true 8

/-- SRL D (R257). -/
def exec_srl_d (s : State) : Result := ((s.advance 2).rot .srl (.reg .d)).retire 0x13A true 8

/-- SRL E (R257). -/
def exec_srl_e (s : State) : Result := ((s.advance 2).rot .srl (.reg .e)).retire 0x13B true 8

/-- SRL H (R257). -/
def exec_srl_h (s : State) : Result := ((s.advance 2).rot .srl (.reg .h)).retire 0x13C true 8

/-- SRL L (R257). -/
def exec_srl_l (s : State) : Result := ((s.advance 2).rot .srl (.reg .l)).retire 0x13D true 8

/-- SRL (HL) (R258). -/
def exec_srl_atHL (s : State) : Result := ((s.advance 2).rot .srl .atHL).retire 0x13E true 16

/-- SRL A (R257). -/
def exec_srl_a (s : State) : Result := ((s.advance 2).rot .srl (.reg .a)).retire 0x13F true 8

/-- BIT 0,B (R261). -/
def exec_bit_0_b (s : State) : Result := ((s.advance 2).bitTest 0 (.reg .b)).retire 0x140 true 8

/-- BIT 0,C (R261). -/
def exec_bit_0_c (s : State) : Result := ((s.advance 2).bitTest 0 (.reg .c)).retire 0x141 true 8

/-- BIT 0,D (R261). -/
def exec_bit_0_d (s : State) : Result := ((s.advance 2).bitTest 0 (.reg .d)).retire 0x142 true 8

/-- BIT 0,E (R261). -/
def exec_bit_0_e (s : State) : Result := ((s.advance 2).bitTest 0 (.reg .e)).retire 0x143 true 8

/-- BIT 0,H (R261). -/
def exec_bit_0_h (s : State) : Result := ((s.advance 2).bitTest 0 (.reg .h)).retire 0x144 true 8

/-- BIT 0,L (R261). -/
def exec_bit_0_l (s : State) : Result := ((s.advance 2).bitTest 0 (.reg .l)).retire 0x145 true 8

/-- BIT 0,(HL) (R262). -/
def exec_bit_0_atHL (s : State) : Result := ((s.advance 2).bitTest 0 .atHL).retire 0x146 true 12

/-- BIT 0,A (R261). -/
def exec_bit_0_a (s : State) : Result := ((s.advance 2).bitTest 0 (.reg .a)).retire 0x147 true 8

/-- BIT 1,B (R261). -/
def exec_bit_1_b (s : State) : Result := ((s.advance 2).bitTest 1 (.reg .b)).retire 0x148 true 8

/-- BIT 1,C (R261). -/
def exec_bit_1_c (s : State) : Result := ((s.advance 2).bitTest 1 (.reg .c)).retire 0x149 true 8

/-- BIT 1,D (R261). -/
def exec_bit_1_d (s : State) : Result := ((s.advance 2).bitTest 1 (.reg .d)).retire 0x14A true 8

/-- BIT 1,E (R261). -/
def exec_bit_1_e (s : State) : Result := ((s.advance 2).bitTest 1 (.reg .e)).retire 0x14B true 8

/-- BIT 1,H (R261). -/
def exec_bit_1_h (s : State) : Result := ((s.advance 2).bitTest 1 (.reg .h)).retire 0x14C true 8

/-- BIT 1,L (R261). -/
def exec_bit_1_l (s : State) : Result := ((s.advance 2).bitTest 1 (.reg .l)).retire 0x14D true 8

/-- BIT 1,(HL) (R262). -/
def exec_bit_1_atHL (s : State) : Result := ((s.advance 2).bitTest 1 .atHL).retire 0x14E true 12

/-- BIT 1,A (R261). -/
def exec_bit_1_a (s : State) : Result := ((s.advance 2).bitTest 1 (.reg .a)).retire 0x14F true 8

/-- BIT 2,B (R261). -/
def exec_bit_2_b (s : State) : Result := ((s.advance 2).bitTest 2 (.reg .b)).retire 0x150 true 8

/-- BIT 2,C (R261). -/
def exec_bit_2_c (s : State) : Result := ((s.advance 2).bitTest 2 (.reg .c)).retire 0x151 true 8

/-- BIT 2,D (R261). -/
def exec_bit_2_d (s : State) : Result := ((s.advance 2).bitTest 2 (.reg .d)).retire 0x152 true 8

/-- BIT 2,E (R261). -/
def exec_bit_2_e (s : State) : Result := ((s.advance 2).bitTest 2 (.reg .e)).retire 0x153 true 8

/-- BIT 2,H (R261). -/
def exec_bit_2_h (s : State) : Result := ((s.advance 2).bitTest 2 (.reg .h)).retire 0x154 true 8

/-- BIT 2,L (R261). -/
def exec_bit_2_l (s : State) : Result := ((s.advance 2).bitTest 2 (.reg .l)).retire 0x155 true 8

/-- BIT 2,(HL) (R262). -/
def exec_bit_2_atHL (s : State) : Result := ((s.advance 2).bitTest 2 .atHL).retire 0x156 true 12

/-- BIT 2,A (R261). -/
def exec_bit_2_a (s : State) : Result := ((s.advance 2).bitTest 2 (.reg .a)).retire 0x157 true 8

/-- BIT 3,B (R261). -/
def exec_bit_3_b (s : State) : Result := ((s.advance 2).bitTest 3 (.reg .b)).retire 0x158 true 8

/-- BIT 3,C (R261). -/
def exec_bit_3_c (s : State) : Result := ((s.advance 2).bitTest 3 (.reg .c)).retire 0x159 true 8

/-- BIT 3,D (R261). -/
def exec_bit_3_d (s : State) : Result := ((s.advance 2).bitTest 3 (.reg .d)).retire 0x15A true 8

/-- BIT 3,E (R261). -/
def exec_bit_3_e (s : State) : Result := ((s.advance 2).bitTest 3 (.reg .e)).retire 0x15B true 8

/-- BIT 3,H (R261). -/
def exec_bit_3_h (s : State) : Result := ((s.advance 2).bitTest 3 (.reg .h)).retire 0x15C true 8

/-- BIT 3,L (R261). -/
def exec_bit_3_l (s : State) : Result := ((s.advance 2).bitTest 3 (.reg .l)).retire 0x15D true 8

/-- BIT 3,(HL) (R262). -/
def exec_bit_3_atHL (s : State) : Result := ((s.advance 2).bitTest 3 .atHL).retire 0x15E true 12

/-- BIT 3,A (R261). -/
def exec_bit_3_a (s : State) : Result := ((s.advance 2).bitTest 3 (.reg .a)).retire 0x15F true 8

/-- BIT 4,B (R261). -/
def exec_bit_4_b (s : State) : Result := ((s.advance 2).bitTest 4 (.reg .b)).retire 0x160 true 8

/-- BIT 4,C (R261). -/
def exec_bit_4_c (s : State) : Result := ((s.advance 2).bitTest 4 (.reg .c)).retire 0x161 true 8

/-- BIT 4,D (R261). -/
def exec_bit_4_d (s : State) : Result := ((s.advance 2).bitTest 4 (.reg .d)).retire 0x162 true 8

/-- BIT 4,E (R261). -/
def exec_bit_4_e (s : State) : Result := ((s.advance 2).bitTest 4 (.reg .e)).retire 0x163 true 8

/-- BIT 4,H (R261). -/
def exec_bit_4_h (s : State) : Result := ((s.advance 2).bitTest 4 (.reg .h)).retire 0x164 true 8

/-- BIT 4,L (R261). -/
def exec_bit_4_l (s : State) : Result := ((s.advance 2).bitTest 4 (.reg .l)).retire 0x165 true 8

/-- BIT 4,(HL) (R262). -/
def exec_bit_4_atHL (s : State) : Result := ((s.advance 2).bitTest 4 .atHL).retire 0x166 true 12

/-- BIT 4,A (R261). -/
def exec_bit_4_a (s : State) : Result := ((s.advance 2).bitTest 4 (.reg .a)).retire 0x167 true 8

/-- BIT 5,B (R261). -/
def exec_bit_5_b (s : State) : Result := ((s.advance 2).bitTest 5 (.reg .b)).retire 0x168 true 8

/-- BIT 5,C (R261). -/
def exec_bit_5_c (s : State) : Result := ((s.advance 2).bitTest 5 (.reg .c)).retire 0x169 true 8

/-- BIT 5,D (R261). -/
def exec_bit_5_d (s : State) : Result := ((s.advance 2).bitTest 5 (.reg .d)).retire 0x16A true 8

/-- BIT 5,E (R261). -/
def exec_bit_5_e (s : State) : Result := ((s.advance 2).bitTest 5 (.reg .e)).retire 0x16B true 8

/-- BIT 5,H (R261). -/
def exec_bit_5_h (s : State) : Result := ((s.advance 2).bitTest 5 (.reg .h)).retire 0x16C true 8

/-- BIT 5,L (R261). -/
def exec_bit_5_l (s : State) : Result := ((s.advance 2).bitTest 5 (.reg .l)).retire 0x16D true 8

/-- BIT 5,(HL) (R262). -/
def exec_bit_5_atHL (s : State) : Result := ((s.advance 2).bitTest 5 .atHL).retire 0x16E true 12

/-- BIT 5,A (R261). -/
def exec_bit_5_a (s : State) : Result := ((s.advance 2).bitTest 5 (.reg .a)).retire 0x16F true 8

/-- BIT 6,B (R261). -/
def exec_bit_6_b (s : State) : Result := ((s.advance 2).bitTest 6 (.reg .b)).retire 0x170 true 8

/-- BIT 6,C (R261). -/
def exec_bit_6_c (s : State) : Result := ((s.advance 2).bitTest 6 (.reg .c)).retire 0x171 true 8

/-- BIT 6,D (R261). -/
def exec_bit_6_d (s : State) : Result := ((s.advance 2).bitTest 6 (.reg .d)).retire 0x172 true 8

/-- BIT 6,E (R261). -/
def exec_bit_6_e (s : State) : Result := ((s.advance 2).bitTest 6 (.reg .e)).retire 0x173 true 8

/-- BIT 6,H (R261). -/
def exec_bit_6_h (s : State) : Result := ((s.advance 2).bitTest 6 (.reg .h)).retire 0x174 true 8

/-- BIT 6,L (R261). -/
def exec_bit_6_l (s : State) : Result := ((s.advance 2).bitTest 6 (.reg .l)).retire 0x175 true 8

/-- BIT 6,(HL) (R262). -/
def exec_bit_6_atHL (s : State) : Result := ((s.advance 2).bitTest 6 .atHL).retire 0x176 true 12

/-- BIT 6,A (R261). -/
def exec_bit_6_a (s : State) : Result := ((s.advance 2).bitTest 6 (.reg .a)).retire 0x177 true 8

/-- BIT 7,B (R261). -/
def exec_bit_7_b (s : State) : Result := ((s.advance 2).bitTest 7 (.reg .b)).retire 0x178 true 8

/-- BIT 7,C (R261). -/
def exec_bit_7_c (s : State) : Result := ((s.advance 2).bitTest 7 (.reg .c)).retire 0x179 true 8

/-- BIT 7,D (R261). -/
def exec_bit_7_d (s : State) : Result := ((s.advance 2).bitTest 7 (.reg .d)).retire 0x17A true 8

/-- BIT 7,E (R261). -/
def exec_bit_7_e (s : State) : Result := ((s.advance 2).bitTest 7 (.reg .e)).retire 0x17B true 8

/-- BIT 7,H (R261). -/
def exec_bit_7_h (s : State) : Result := ((s.advance 2).bitTest 7 (.reg .h)).retire 0x17C true 8

/-- BIT 7,L (R261). -/
def exec_bit_7_l (s : State) : Result := ((s.advance 2).bitTest 7 (.reg .l)).retire 0x17D true 8

/-- BIT 7,(HL) (R262). -/
def exec_bit_7_atHL (s : State) : Result := ((s.advance 2).bitTest 7 .atHL).retire 0x17E true 12

/-- BIT 7,A (R261). -/
def exec_bit_7_a (s : State) : Result := ((s.advance 2).bitTest 7 (.reg .a)).retire 0x17F true 8

/-- RES 0,B (R263). -/
def exec_res_0_b (s : State) : Result := ((s.advance 2).bitReset 0 (.reg .b)).retire 0x180 true 8

/-- RES 0,C (R263). -/
def exec_res_0_c (s : State) : Result := ((s.advance 2).bitReset 0 (.reg .c)).retire 0x181 true 8

/-- RES 0,D (R263). -/
def exec_res_0_d (s : State) : Result := ((s.advance 2).bitReset 0 (.reg .d)).retire 0x182 true 8

/-- RES 0,E (R263). -/
def exec_res_0_e (s : State) : Result := ((s.advance 2).bitReset 0 (.reg .e)).retire 0x183 true 8

/-- RES 0,H (R263). -/
def exec_res_0_h (s : State) : Result := ((s.advance 2).bitReset 0 (.reg .h)).retire 0x184 true 8

/-- RES 0,L (R263). -/
def exec_res_0_l (s : State) : Result := ((s.advance 2).bitReset 0 (.reg .l)).retire 0x185 true 8

/-- RES 0,(HL) (R264). -/
def exec_res_0_atHL (s : State) : Result := ((s.advance 2).bitReset 0 .atHL).retire 0x186 true 16

/-- RES 0,A (R263). -/
def exec_res_0_a (s : State) : Result := ((s.advance 2).bitReset 0 (.reg .a)).retire 0x187 true 8

/-- RES 1,B (R263). -/
def exec_res_1_b (s : State) : Result := ((s.advance 2).bitReset 1 (.reg .b)).retire 0x188 true 8

/-- RES 1,C (R263). -/
def exec_res_1_c (s : State) : Result := ((s.advance 2).bitReset 1 (.reg .c)).retire 0x189 true 8

/-- RES 1,D (R263). -/
def exec_res_1_d (s : State) : Result := ((s.advance 2).bitReset 1 (.reg .d)).retire 0x18A true 8

/-- RES 1,E (R263). -/
def exec_res_1_e (s : State) : Result := ((s.advance 2).bitReset 1 (.reg .e)).retire 0x18B true 8

/-- RES 1,H (R263). -/
def exec_res_1_h (s : State) : Result := ((s.advance 2).bitReset 1 (.reg .h)).retire 0x18C true 8

/-- RES 1,L (R263). -/
def exec_res_1_l (s : State) : Result := ((s.advance 2).bitReset 1 (.reg .l)).retire 0x18D true 8

/-- RES 1,(HL) (R264). -/
def exec_res_1_atHL (s : State) : Result := ((s.advance 2).bitReset 1 .atHL).retire 0x18E true 16

/-- RES 1,A (R263). -/
def exec_res_1_a (s : State) : Result := ((s.advance 2).bitReset 1 (.reg .a)).retire 0x18F true 8

/-- RES 2,B (R263). -/
def exec_res_2_b (s : State) : Result := ((s.advance 2).bitReset 2 (.reg .b)).retire 0x190 true 8

/-- RES 2,C (R263). -/
def exec_res_2_c (s : State) : Result := ((s.advance 2).bitReset 2 (.reg .c)).retire 0x191 true 8

/-- RES 2,D (R263). -/
def exec_res_2_d (s : State) : Result := ((s.advance 2).bitReset 2 (.reg .d)).retire 0x192 true 8

/-- RES 2,E (R263). -/
def exec_res_2_e (s : State) : Result := ((s.advance 2).bitReset 2 (.reg .e)).retire 0x193 true 8

/-- RES 2,H (R263). -/
def exec_res_2_h (s : State) : Result := ((s.advance 2).bitReset 2 (.reg .h)).retire 0x194 true 8

/-- RES 2,L (R263). -/
def exec_res_2_l (s : State) : Result := ((s.advance 2).bitReset 2 (.reg .l)).retire 0x195 true 8

/-- RES 2,(HL) (R264). -/
def exec_res_2_atHL (s : State) : Result := ((s.advance 2).bitReset 2 .atHL).retire 0x196 true 16

/-- RES 2,A (R263). -/
def exec_res_2_a (s : State) : Result := ((s.advance 2).bitReset 2 (.reg .a)).retire 0x197 true 8

/-- RES 3,B (R263). -/
def exec_res_3_b (s : State) : Result := ((s.advance 2).bitReset 3 (.reg .b)).retire 0x198 true 8

/-- RES 3,C (R263). -/
def exec_res_3_c (s : State) : Result := ((s.advance 2).bitReset 3 (.reg .c)).retire 0x199 true 8

/-- RES 3,D (R263). -/
def exec_res_3_d (s : State) : Result := ((s.advance 2).bitReset 3 (.reg .d)).retire 0x19A true 8

/-- RES 3,E (R263). -/
def exec_res_3_e (s : State) : Result := ((s.advance 2).bitReset 3 (.reg .e)).retire 0x19B true 8

/-- RES 3,H (R263). -/
def exec_res_3_h (s : State) : Result := ((s.advance 2).bitReset 3 (.reg .h)).retire 0x19C true 8

/-- RES 3,L (R263). -/
def exec_res_3_l (s : State) : Result := ((s.advance 2).bitReset 3 (.reg .l)).retire 0x19D true 8

/-- RES 3,(HL) (R264). -/
def exec_res_3_atHL (s : State) : Result := ((s.advance 2).bitReset 3 .atHL).retire 0x19E true 16

/-- RES 3,A (R263). -/
def exec_res_3_a (s : State) : Result := ((s.advance 2).bitReset 3 (.reg .a)).retire 0x19F true 8

/-- RES 4,B (R263). -/
def exec_res_4_b (s : State) : Result := ((s.advance 2).bitReset 4 (.reg .b)).retire 0x1A0 true 8

/-- RES 4,C (R263). -/
def exec_res_4_c (s : State) : Result := ((s.advance 2).bitReset 4 (.reg .c)).retire 0x1A1 true 8

/-- RES 4,D (R263). -/
def exec_res_4_d (s : State) : Result := ((s.advance 2).bitReset 4 (.reg .d)).retire 0x1A2 true 8

/-- RES 4,E (R263). -/
def exec_res_4_e (s : State) : Result := ((s.advance 2).bitReset 4 (.reg .e)).retire 0x1A3 true 8

/-- RES 4,H (R263). -/
def exec_res_4_h (s : State) : Result := ((s.advance 2).bitReset 4 (.reg .h)).retire 0x1A4 true 8

/-- RES 4,L (R263). -/
def exec_res_4_l (s : State) : Result := ((s.advance 2).bitReset 4 (.reg .l)).retire 0x1A5 true 8

/-- RES 4,(HL) (R264). -/
def exec_res_4_atHL (s : State) : Result := ((s.advance 2).bitReset 4 .atHL).retire 0x1A6 true 16

/-- RES 4,A (R263). -/
def exec_res_4_a (s : State) : Result := ((s.advance 2).bitReset 4 (.reg .a)).retire 0x1A7 true 8

/-- RES 5,B (R263). -/
def exec_res_5_b (s : State) : Result := ((s.advance 2).bitReset 5 (.reg .b)).retire 0x1A8 true 8

/-- RES 5,C (R263). -/
def exec_res_5_c (s : State) : Result := ((s.advance 2).bitReset 5 (.reg .c)).retire 0x1A9 true 8

/-- RES 5,D (R263). -/
def exec_res_5_d (s : State) : Result := ((s.advance 2).bitReset 5 (.reg .d)).retire 0x1AA true 8

/-- RES 5,E (R263). -/
def exec_res_5_e (s : State) : Result := ((s.advance 2).bitReset 5 (.reg .e)).retire 0x1AB true 8

/-- RES 5,H (R263). -/
def exec_res_5_h (s : State) : Result := ((s.advance 2).bitReset 5 (.reg .h)).retire 0x1AC true 8

/-- RES 5,L (R263). -/
def exec_res_5_l (s : State) : Result := ((s.advance 2).bitReset 5 (.reg .l)).retire 0x1AD true 8

/-- RES 5,(HL) (R264). -/
def exec_res_5_atHL (s : State) : Result := ((s.advance 2).bitReset 5 .atHL).retire 0x1AE true 16

/-- RES 5,A (R263). -/
def exec_res_5_a (s : State) : Result := ((s.advance 2).bitReset 5 (.reg .a)).retire 0x1AF true 8

/-- RES 6,B (R263). -/
def exec_res_6_b (s : State) : Result := ((s.advance 2).bitReset 6 (.reg .b)).retire 0x1B0 true 8

/-- RES 6,C (R263). -/
def exec_res_6_c (s : State) : Result := ((s.advance 2).bitReset 6 (.reg .c)).retire 0x1B1 true 8

/-- RES 6,D (R263). -/
def exec_res_6_d (s : State) : Result := ((s.advance 2).bitReset 6 (.reg .d)).retire 0x1B2 true 8

/-- RES 6,E (R263). -/
def exec_res_6_e (s : State) : Result := ((s.advance 2).bitReset 6 (.reg .e)).retire 0x1B3 true 8

/-- RES 6,H (R263). -/
def exec_res_6_h (s : State) : Result := ((s.advance 2).bitReset 6 (.reg .h)).retire 0x1B4 true 8

/-- RES 6,L (R263). -/
def exec_res_6_l (s : State) : Result := ((s.advance 2).bitReset 6 (.reg .l)).retire 0x1B5 true 8

/-- RES 6,(HL) (R264). -/
def exec_res_6_atHL (s : State) : Result := ((s.advance 2).bitReset 6 .atHL).retire 0x1B6 true 16

/-- RES 6,A (R263). -/
def exec_res_6_a (s : State) : Result := ((s.advance 2).bitReset 6 (.reg .a)).retire 0x1B7 true 8

/-- RES 7,B (R263). -/
def exec_res_7_b (s : State) : Result := ((s.advance 2).bitReset 7 (.reg .b)).retire 0x1B8 true 8

/-- RES 7,C (R263). -/
def exec_res_7_c (s : State) : Result := ((s.advance 2).bitReset 7 (.reg .c)).retire 0x1B9 true 8

/-- RES 7,D (R263). -/
def exec_res_7_d (s : State) : Result := ((s.advance 2).bitReset 7 (.reg .d)).retire 0x1BA true 8

/-- RES 7,E (R263). -/
def exec_res_7_e (s : State) : Result := ((s.advance 2).bitReset 7 (.reg .e)).retire 0x1BB true 8

/-- RES 7,H (R263). -/
def exec_res_7_h (s : State) : Result := ((s.advance 2).bitReset 7 (.reg .h)).retire 0x1BC true 8

/-- RES 7,L (R263). -/
def exec_res_7_l (s : State) : Result := ((s.advance 2).bitReset 7 (.reg .l)).retire 0x1BD true 8

/-- RES 7,(HL) (R264). -/
def exec_res_7_atHL (s : State) : Result := ((s.advance 2).bitReset 7 .atHL).retire 0x1BE true 16

/-- RES 7,A (R263). -/
def exec_res_7_a (s : State) : Result := ((s.advance 2).bitReset 7 (.reg .a)).retire 0x1BF true 8

/-- SET 0,B (R265). -/
def exec_set_0_b (s : State) : Result := ((s.advance 2).bitSet 0 (.reg .b)).retire 0x1C0 true 8

/-- SET 0,C (R265). -/
def exec_set_0_c (s : State) : Result := ((s.advance 2).bitSet 0 (.reg .c)).retire 0x1C1 true 8

/-- SET 0,D (R265). -/
def exec_set_0_d (s : State) : Result := ((s.advance 2).bitSet 0 (.reg .d)).retire 0x1C2 true 8

/-- SET 0,E (R265). -/
def exec_set_0_e (s : State) : Result := ((s.advance 2).bitSet 0 (.reg .e)).retire 0x1C3 true 8

/-- SET 0,H (R265). -/
def exec_set_0_h (s : State) : Result := ((s.advance 2).bitSet 0 (.reg .h)).retire 0x1C4 true 8

/-- SET 0,L (R265). -/
def exec_set_0_l (s : State) : Result := ((s.advance 2).bitSet 0 (.reg .l)).retire 0x1C5 true 8

/-- SET 0,(HL) (R266). -/
def exec_set_0_atHL (s : State) : Result := ((s.advance 2).bitSet 0 .atHL).retire 0x1C6 true 16

/-- SET 0,A (R265). -/
def exec_set_0_a (s : State) : Result := ((s.advance 2).bitSet 0 (.reg .a)).retire 0x1C7 true 8

/-- SET 1,B (R265). -/
def exec_set_1_b (s : State) : Result := ((s.advance 2).bitSet 1 (.reg .b)).retire 0x1C8 true 8

/-- SET 1,C (R265). -/
def exec_set_1_c (s : State) : Result := ((s.advance 2).bitSet 1 (.reg .c)).retire 0x1C9 true 8

/-- SET 1,D (R265). -/
def exec_set_1_d (s : State) : Result := ((s.advance 2).bitSet 1 (.reg .d)).retire 0x1CA true 8

/-- SET 1,E (R265). -/
def exec_set_1_e (s : State) : Result := ((s.advance 2).bitSet 1 (.reg .e)).retire 0x1CB true 8

/-- SET 1,H (R265). -/
def exec_set_1_h (s : State) : Result := ((s.advance 2).bitSet 1 (.reg .h)).retire 0x1CC true 8

/-- SET 1,L (R265). -/
def exec_set_1_l (s : State) : Result := ((s.advance 2).bitSet 1 (.reg .l)).retire 0x1CD true 8

/-- SET 1,(HL) (R266). -/
def exec_set_1_atHL (s : State) : Result := ((s.advance 2).bitSet 1 .atHL).retire 0x1CE true 16

/-- SET 1,A (R265). -/
def exec_set_1_a (s : State) : Result := ((s.advance 2).bitSet 1 (.reg .a)).retire 0x1CF true 8

/-- SET 2,B (R265). -/
def exec_set_2_b (s : State) : Result := ((s.advance 2).bitSet 2 (.reg .b)).retire 0x1D0 true 8

/-- SET 2,C (R265). -/
def exec_set_2_c (s : State) : Result := ((s.advance 2).bitSet 2 (.reg .c)).retire 0x1D1 true 8

/-- SET 2,D (R265). -/
def exec_set_2_d (s : State) : Result := ((s.advance 2).bitSet 2 (.reg .d)).retire 0x1D2 true 8

/-- SET 2,E (R265). -/
def exec_set_2_e (s : State) : Result := ((s.advance 2).bitSet 2 (.reg .e)).retire 0x1D3 true 8

/-- SET 2,H (R265). -/
def exec_set_2_h (s : State) : Result := ((s.advance 2).bitSet 2 (.reg .h)).retire 0x1D4 true 8

/-- SET 2,L (R265). -/
def exec_set_2_l (s : State) : Result := ((s.advance 2).bitSet 2 (.reg .l)).retire 0x1D5 true 8

/-- SET 2,(HL) (R266). -/
def exec_set_2_atHL (s : State) : Result := ((s.advance 2).bitSet 2 .atHL).retire 0x1D6 true 16

/-- SET 2,A (R265). -/
def exec_set_2_a (s : State) : Result := ((s.advance 2).bitSet 2 (.reg .a)).retire 0x1D7 true 8

/-- SET 3,B (R265). -/
def exec_set_3_b (s : State) : Result := ((s.advance 2).bitSet 3 (.reg .b)).retire 0x1D8 true 8

/-- SET 3,C (R265). -/
def exec_set_3_c (s : State) : Result := ((s.advance 2).bitSet 3 (.reg .c)).retire 0x1D9 true 8

/-- SET 3,D (R265). -/
def exec_set_3_d (s : State) : Result := ((s.advance 2).bitSet 3 (.reg .d)).retire 0x1DA true 8

/-- SET 3,E (R265). -/
def exec_set_3_e (s : State) : Result := ((s.advance 2).bitSet 3 (.reg .e)).retire 0x1DB true 8

/-- SET 3,H (R265). -/
def exec_set_3_h (s : State) : Result := ((s.advance 2).bitSet 3 (.reg .h)).retire 0x1DC true 8

/-- SET 3,L (R265). -/
def exec_set_3_l (s : State) : Result := ((s.advance 2).bitSet 3 (.reg .l)).retire 0x1DD true 8

/-- SET 3,(HL) (R266). -/
def exec_set_3_atHL (s : State) : Result := ((s.advance 2).bitSet 3 .atHL).retire 0x1DE true 16

/-- SET 3,A (R265). -/
def exec_set_3_a (s : State) : Result := ((s.advance 2).bitSet 3 (.reg .a)).retire 0x1DF true 8

/-- SET 4,B (R265). -/
def exec_set_4_b (s : State) : Result := ((s.advance 2).bitSet 4 (.reg .b)).retire 0x1E0 true 8

/-- SET 4,C (R265). -/
def exec_set_4_c (s : State) : Result := ((s.advance 2).bitSet 4 (.reg .c)).retire 0x1E1 true 8

/-- SET 4,D (R265). -/
def exec_set_4_d (s : State) : Result := ((s.advance 2).bitSet 4 (.reg .d)).retire 0x1E2 true 8

/-- SET 4,E (R265). -/
def exec_set_4_e (s : State) : Result := ((s.advance 2).bitSet 4 (.reg .e)).retire 0x1E3 true 8

/-- SET 4,H (R265). -/
def exec_set_4_h (s : State) : Result := ((s.advance 2).bitSet 4 (.reg .h)).retire 0x1E4 true 8

/-- SET 4,L (R265). -/
def exec_set_4_l (s : State) : Result := ((s.advance 2).bitSet 4 (.reg .l)).retire 0x1E5 true 8

/-- SET 4,(HL) (R266). -/
def exec_set_4_atHL (s : State) : Result := ((s.advance 2).bitSet 4 .atHL).retire 0x1E6 true 16

/-- SET 4,A (R265). -/
def exec_set_4_a (s : State) : Result := ((s.advance 2).bitSet 4 (.reg .a)).retire 0x1E7 true 8

/-- SET 5,B (R265). -/
def exec_set_5_b (s : State) : Result := ((s.advance 2).bitSet 5 (.reg .b)).retire 0x1E8 true 8

/-- SET 5,C (R265). -/
def exec_set_5_c (s : State) : Result := ((s.advance 2).bitSet 5 (.reg .c)).retire 0x1E9 true 8

/-- SET 5,D (R265). -/
def exec_set_5_d (s : State) : Result := ((s.advance 2).bitSet 5 (.reg .d)).retire 0x1EA true 8

/-- SET 5,E (R265). -/
def exec_set_5_e (s : State) : Result := ((s.advance 2).bitSet 5 (.reg .e)).retire 0x1EB true 8

/-- SET 5,H (R265). -/
def exec_set_5_h (s : State) : Result := ((s.advance 2).bitSet 5 (.reg .h)).retire 0x1EC true 8

/-- SET 5,L (R265). -/
def exec_set_5_l (s : State) : Result := ((s.advance 2).bitSet 5 (.reg .l)).retire 0x1ED true 8

/-- SET 5,(HL) (R266). -/
def exec_set_5_atHL (s : State) : Result := ((s.advance 2).bitSet 5 .atHL).retire 0x1EE true 16

/-- SET 5,A (R265). -/
def exec_set_5_a (s : State) : Result := ((s.advance 2).bitSet 5 (.reg .a)).retire 0x1EF true 8

/-- SET 6,B (R265). -/
def exec_set_6_b (s : State) : Result := ((s.advance 2).bitSet 6 (.reg .b)).retire 0x1F0 true 8

/-- SET 6,C (R265). -/
def exec_set_6_c (s : State) : Result := ((s.advance 2).bitSet 6 (.reg .c)).retire 0x1F1 true 8

/-- SET 6,D (R265). -/
def exec_set_6_d (s : State) : Result := ((s.advance 2).bitSet 6 (.reg .d)).retire 0x1F2 true 8

/-- SET 6,E (R265). -/
def exec_set_6_e (s : State) : Result := ((s.advance 2).bitSet 6 (.reg .e)).retire 0x1F3 true 8

/-- SET 6,H (R265). -/
def exec_set_6_h (s : State) : Result := ((s.advance 2).bitSet 6 (.reg .h)).retire 0x1F4 true 8

/-- SET 6,L (R265). -/
def exec_set_6_l (s : State) : Result := ((s.advance 2).bitSet 6 (.reg .l)).retire 0x1F5 true 8

/-- SET 6,(HL) (R266). -/
def exec_set_6_atHL (s : State) : Result := ((s.advance 2).bitSet 6 .atHL).retire 0x1F6 true 16

/-- SET 6,A (R265). -/
def exec_set_6_a (s : State) : Result := ((s.advance 2).bitSet 6 (.reg .a)).retire 0x1F7 true 8

/-- SET 7,B (R265). -/
def exec_set_7_b (s : State) : Result := ((s.advance 2).bitSet 7 (.reg .b)).retire 0x1F8 true 8

/-- SET 7,C (R265). -/
def exec_set_7_c (s : State) : Result := ((s.advance 2).bitSet 7 (.reg .c)).retire 0x1F9 true 8

/-- SET 7,D (R265). -/
def exec_set_7_d (s : State) : Result := ((s.advance 2).bitSet 7 (.reg .d)).retire 0x1FA true 8

/-- SET 7,E (R265). -/
def exec_set_7_e (s : State) : Result := ((s.advance 2).bitSet 7 (.reg .e)).retire 0x1FB true 8

/-- SET 7,H (R265). -/
def exec_set_7_h (s : State) : Result := ((s.advance 2).bitSet 7 (.reg .h)).retire 0x1FC true 8

/-- SET 7,L (R265). -/
def exec_set_7_l (s : State) : Result := ((s.advance 2).bitSet 7 (.reg .l)).retire 0x1FD true 8

/-- SET 7,(HL) (R266). -/
def exec_set_7_atHL (s : State) : Result := ((s.advance 2).bitSet 7 .atHL).retire 0x1FE true 16

/-- SET 7,A (R265). -/
def exec_set_7_a (s : State) : Result := ((s.advance 2).bitSet 7 (.reg .a)).retire 0x1FF true 8

end Sys2Proof.Machine
end

