-- ==== Sys2Proof/Machine/System.lean ====
section
/-! DEFINITION. NOP, DI, EI, HALT, STOP and the illegal opcodes (spec/45_system.md R300-R305), one definition per row of the opcode
table: PC moves past the instruction's bytes, the shared operation is done, and the row's count of R383 is reported. -/

namespace Sys2Proof.Machine

/-- NOP (R300). -/
def exec_nop (s : State) : Result := (s.advance 1).retire 0x00 true 4

/-- STOP (R303); the byte after the opcode is fetched and ignored (R118). -/
def exec_stop (_x : Byte) (s : State) : Result := ((s.advance 2).stop).retire 0x10 true 4

/-- HALT (R302). -/
def exec_halt (s : State) : Result := ((s.advance 1).halt).retire 0x76 true 4

/-- ILLEGAL_D3 (R305). -/
def exec_illegal_d3 (s : State) : Result := .next (((s.advance 1).raiseIllegal 0xD3 s.pc).report 4)

/-- ILLEGAL_DB (R305). -/
def exec_illegal_db (s : State) : Result := .next (((s.advance 1).raiseIllegal 0xDB s.pc).report 4)

/-- ILLEGAL_DD (R305). -/
def exec_illegal_dd (s : State) : Result := .next (((s.advance 1).raiseIllegal 0xDD s.pc).report 4)

/-- ILLEGAL_E3 (R305). -/
def exec_illegal_e3 (s : State) : Result := .next (((s.advance 1).raiseIllegal 0xE3 s.pc).report 4)

/-- ILLEGAL_E4 (R305). -/
def exec_illegal_e4 (s : State) : Result := .next (((s.advance 1).raiseIllegal 0xE4 s.pc).report 4)

/-- ILLEGAL_EB (R305). -/
def exec_illegal_eb (s : State) : Result := .next (((s.advance 1).raiseIllegal 0xEB s.pc).report 4)

/-- ILLEGAL_EC (R305). -/
def exec_illegal_ec (s : State) : Result := .next (((s.advance 1).raiseIllegal 0xEC s.pc).report 4)

/-- ILLEGAL_ED (R305). -/
def exec_illegal_ed (s : State) : Result := .next (((s.advance 1).raiseIllegal 0xED s.pc).report 4)

/-- DI (R301). -/
def exec_di (s : State) : Result := ((s.advance 1).disableInterrupts).retire 0xF3 true 4

/-- ILLEGAL_F4 (R305). -/
def exec_illegal_f4 (s : State) : Result := .next (((s.advance 1).raiseIllegal 0xF4 s.pc).report 4)

/-- EI (R304). -/
def exec_ei (s : State) : Result := ((s.advance 1).enableInterrupts).retire 0xFB true 4

/-- ILLEGAL_FC (R305). -/
def exec_illegal_fc (s : State) : Result := .next (((s.advance 1).raiseIllegal 0xFC s.pc).report 4)

/-- ILLEGAL_FD (R305). -/
def exec_illegal_fd (s : State) : Result := .next (((s.advance 1).raiseIllegal 0xFD s.pc).report 4)

end Sys2Proof.Machine
end

