-- ==== Sys2Proof/Machine/StepOps.lean ====
section
/-! DEFINITION. The parts of `step()` (spec/60_exceptions.md R320): which kind of step a state takes, the step of each kind that is no
instruction, what follows an instruction, and how a word of code is placed where the next step fetches it. -/

namespace Sys2Proof.Machine

/-- The wake rule (R333): a halted core with a request pending is halted no more, whatever IME is. -/
def State.wake (s : State) : State := if s.halted = true ∧ s.pending ≠ 0 then { s with halted := false } else s

/-- The kinds of step R320 tells apart. -/
inductive Phase where
  | locked
  | stopped
  | dispatch (i : Fin 5)
  | idle
  | instruction
  deriving DecidableEq, Repr

/-- The source the interrupt check of a step dispatches (R332, R335): none with IME = 0 or with nothing pending. -/
def State.dispatchSource (s : State) : Option (Fin 5) := if s.ime then lowestPending s.pending else none

/-- The kind of step a state takes (R320): Locked and Stopped come before the interrupt check, the check before the halted no-op and
before any fetch. DESIGN CHOICE (log entry 18): after EI with a request pending the step is the dispatch even where the next
instruction is HALT, so that HALT's own address is pushed; the spec says both this (R304, R320, D20) and that HALT executes first
(R304's corner case, 93_implementation_defined.md section 2). -/
def State.phase (s : State) : Phase :=
  if s.locked then .locked
  else if s.stopped then .stopped
  else
    match s.dispatchSource with
    | some i => .dispatch i
    | none => if s.wake.halted then .idle else .instruction

/-- The step of a Locked core (R345): the timer advances by 4. -/
def State.lockedStep (s : State) : State := (s.report 4).timerAdvance 4

/-- The step of a Stopped core (R303): 4 cycles are reported, and the timer stands. -/
def State.stoppedStep (s : State) : State := s.report 4

/-- A dispatch step (R320, R334): a halted core is woken, the source dispatched, 20 cycles. -/
def State.dispatchStep (s : State) (i : Fin 5) : State := ((s.wake.dispatch i).report 20).timerAdvance 20

/-- The halted no-op (R320): 4 cycles. -/
def State.idleStep (s : State) : State := (s.report 4).timerAdvance 4

/-- After an instruction the timer advances by the count it reported (R320, R321). -/
def afterExec : Result → Result
  | .next t => .next (t.timerAdvance t.cycles)
  | .fault r => .fault r
  | .refused r => .refused r

/-- Whether the three bytes from `pc` on are all the bus's. -/
def codeFits (pc : Word) : Bool := (blockReg? pc).isNone && (blockReg? (pc + 1)).isNone && (blockReg? (pc + 2)).isNone

/-- The state made ready to fetch at PC in its very next step (log entry 10): Running, with no dispatch due, with PC moved to the
cartridge entry 0x0100 where the bytes at PC are not all the bus's, and with a FLAT_RAM that holds what is placed. -/
def State.readyToFetch (s : State) : State :=
  { s with
    halted := false
    haltBug := false
    stopped := false
    locked := false
    fault := none
    ime := s.ime && s.pending == 0
    pc := if codeFits s.pc then s.pc else 0x0100
    bus := if s.bus.isFlatRam then s.bus else .flatRam [] }

/-- Bytes stored at consecutive addresses. -/
def State.placeBytes (s : State) (a : Word) : List Byte → State
  | [] => s
  | v :: rest => (s.memWrite a v).placeBytes (a + 1) rest

/-- The word of code placed where the next step fetches. -/
def State.placeCode (s : State) (code : List Byte) : State := s.readyToFetch.placeBytes s.readyToFetch.pc code

end Sys2Proof.Machine
end

