-- ==== Sys2Proof/Machine/HostCalls.lean ====
section
/-! DEFINITION. What the host may do to the core between steps, and what it may ask it (spec/60_exceptions.md R336, R340, R341). -/

namespace Sys2Proof.Machine

/-- `requestInterrupt(i)` (R336): the request is latched in IF; it dispatches nothing itself. -/
def State.requestInterrupt (s : State) (i : Fin 5) : State := { s with iflag := s.iflag ||| (1#5 <<< i.val) }

/-- `stopWake()`, the event STOP_WAKE (R340). -/
def State.stopWake (s : State) : State := { s with stopped := false }

/-- A change of bus state by a device between steps (R341), for FLAT_RAM. DESIGN CHOICE (log entries 1 and 11): one byte a call; at
a block register's address, where R341 gives the host no move, and under another BUS the call changes nothing. -/
def State.busChange (s : State) (a : Word) (v : Byte) : State :=
  match blockReg? a, s.bus with
  | none, .flatRam mem => { s with bus := .flatRam (Memory.write mem a.toNat v) }
  | _, _ => s

/-- A change of bus state by a device between steps (R341), for a BUS other than FLAT_RAM: its state becomes any other. DESIGN CHOICE
(log entry 11): under FLAT_RAM the call changes nothing, and which BUS the machine has never changes. -/
def State.busEvent (s : State) (data : List Nat) : State :=
  match s.bus with
  | .external _ => { s with bus := .external data }
  | .flatRam _ => s

/-- `reset(profile)` (R340, R370, R372): the bus state and the parameters stay. -/
def State.hostReset (s : State) (profile : ResetProfile) (imeReset : Bool) : State :=
  State.resetTo profile imeReset s.params s.bus

/-- `isHalted()` (R340, D21): the Halted state only. -/
def State.isHalted (s : State) : Bool := s.halted

/-- `isMasterInterruptEnabled()` (R340). -/
def State.isMasterInterruptEnabled (s : State) : Bool := s.ime

/-- The registers and bits `read(reg)` gives (R340). -/
inductive HostReg where
  | a | f | b | c | d | e | h | l | af | bc | de | hl | sp | pc | ime | ie | iflag | div | tima | tma | tac
  | halted | haltBug | stopped | locked | fault
  deriving DecidableEq, Repr

/-- What `read(reg)` answers with. -/
inductive HostValue where
  | number (n : Nat)
  | bit (b : Bool)
  | fault (f : Option (Nat × IllegalOpcode))
  deriving DecidableEq, Repr

/-- The cause code of a recorded fault (R323): 0 for IllegalOpcode, the one cause there is. -/
def IllegalOpcode.causeCode (_ : IllegalOpcode) : Nat := 0

/-- `read(reg)` (R340): no state change. The fault is read with its cause code (R323). -/
def State.hostRead (s : State) : HostReg → HostValue
  | .a => .number s.a.toNat
  | .f => .number s.flags.toByte.toNat
  | .b => .number s.b.toNat
  | .c => .number s.c.toNat
  | .d => .number s.d.toNat
  | .e => .number s.e.toNat
  | .h => .number s.h.toNat
  | .l => .number s.l.toNat
  | .af => .number s.af.toNat
  | .bc => .number s.bc.toNat
  | .de => .number s.de.toNat
  | .hl => .number s.hl.toNat
  | .sp => .number s.sp.toNat
  | .pc => .number s.pc.toNat
  | .ime => .bit s.ime
  | .ie => .number s.ie.toNat
  | .iflag => .number s.iflag.toNat
  | .div => .number s.div.toNat
  | .tima => .number s.tima.toNat
  | .tma => .number s.tma.toNat
  | .tac => .number s.tac.toNat
  | .halted => .bit s.halted
  | .haltBug => .bit s.haltBug
  | .stopped => .bit s.stopped
  | .locked => .bit s.locked
  | .fault => .fault (s.fault.map fun f => (f.causeCode, f))

/-- The calls of the host that change the state (R341's liberties and the duty `stopWake`), other than `step()`. -/
inductive HostCall where
  | reset (profile : ResetProfile) (imeReset : Bool)
  | requestInterrupt (i : Fin 5)
  | stopWake
  | busChange (a : Word) (v : Byte)
  | busEvent (data : List Nat)
  deriving DecidableEq, Repr

/-- What a host call does. -/
def State.hostCall (s : State) : HostCall → State
  | .reset profile imeReset => s.hostReset profile imeReset
  | .requestInterrupt i => s.requestInterrupt i
  | .stopWake => s.stopWake
  | .busChange a v => s.busChange a v
  | .busEvent data => s.busEvent data

end Sys2Proof.Machine
end

