-- ==== Sys2Proof/Machine/Step.lean ====
section
/-! DEFINITION. The one transition of the core, `step()` (spec/60_exceptions.md R320), and where a word of the opcode table is placed to be
fetched next. -/

namespace Sys2Proof.Machine

/-- `step()` (R320). The count it returns is left in `cycles`. -/
def step (s : State) : Host.Outcome State Fault Refusal :=
  match s.phase with
  | .locked => .next s.lockedStep
  | .stopped => .next s.stoppedStep
  | .dispatch i => .next (s.dispatchStep i)
  | .idle => .next s.idleStep
  | .instruction => afterExec (exec s.wake.fetchInstr s.wake)

/-- `s` with the instruction of the table word `w` where the next step fetches (log entry 10). -/
def State.withFetchWord (s : State) (nbits w : Nat) : State := s.placeCode (tableBytes nbits w)

end Sys2Proof.Machine
end

