-- ==== Sys2Proof/Safety.lean ====
section
/-! DEFINITION. The invariant of the machine's states, and what counts as a safe and as an ended run (spec/60_exceptions.md R342, R345). -/

namespace Sys2Proof.Machine

/-- The execution states are exclusive (10_state.md R55): at most one of `halted`, `haltBug`, `stopped`, and none in the Locked
state; the fault is recorded exactly there (R345), and the halt bug is pending only with IME = 0 (R302). -/
abbrev State.ModesExclusive (s : State) : Prop :=
  (s.halted = true → s.haltBug = false ∧ s.stopped = false) ∧ (s.haltBug = true → s.stopped = false ∧ s.ime = false) ∧
  (s.locked = true → s.halted = false ∧ s.haltBug = false ∧ s.stopped = false) ∧ s.locked = s.fault.isSome

/-- The timer's internal counters are in range (10_state.md R48, R52). -/
abbrev State.TimerInRange (s : State) : Prop := s.divAcc < 256 ∧ 1 ≤ s.countdown ∧ s.countdown ≤ 1024

/-- The invariant every step and every host call keeps. -/
abbrev State.Inv (s : State) : Prop := s.bus.wf = true ∧ s.TimerInRange ∧ s.ModesExclusive

/-- A run that reaches a Locked state is not safe: it is a fault, never an end (R342, R345). -/
abbrev State.Safe (s : State) : Prop := s.locked = false

/-- The end of a run (R342): with an END_PC, the first boundary at which the next step would fetch there; without one, a halt
nothing in the block can wake. -/
def State.ended (s : State) (endPc : Option Word) : Bool :=
  match endPc with
  | some a => s.phase == .instruction && !s.halted && s.pc == a
  | none => s.halted && s.ie.setWidth 5 == 0#5
end Sys2Proof.Machine
end

