-- ==== Sys2Proof/Certificates/Slice0/Obligations.lean ====
section
/-! DEFINITION. The statements for the provers, one `def Obligations.<Name> : Prop` each, with the words they are said in (namespace
`Sys2Proof.Claims`): field codes and arithmetic on numbers, written from the spec's rules and not from the model's operations. -/

namespace Sys2Proof.Claims
open Sys2Proof.Machine

/-- The codes of the fields `r`, `rp`, `rp2`, `cc`, `alu` and the rotate field (30_encoding.md R104-R109). -/
def regCode : Reg8 → Nat
  | .b => 0 | .c => 1 | .d => 2 | .e => 3 | .h => 4 | .l => 5 | .a => 7
def locCode : Loc → Nat
  | .reg r => regCode r
  | .atHL => 6
def pairCode : Pair → Nat
  | .bc => 0 | .de => 1 | .hl => 2 | .sp => 3
def stackPairCode : StackPair → Nat
  | .bc => 0 | .de => 1 | .hl => 2 | .af => 3
def condCode : Cond → Nat
  | .nz => 0 | .z => 1 | .nc => 2 | .c => 3
def aluCode : AluOp → Nat
  | .add => 0 | .adc => 1 | .sub => 2 | .sbc => 3 | .and => 4 | .xor => 5 | .or => 6 | .cp => 7
def rotCode : RotOp → Nat
  | .rlc => 0 | .rrc => 1 | .rl => 2 | .rr => 3 | .sla => 4 | .sra => 5 | .swap => 6 | .srl => 7

/-- The byte of a number. -/
def byte (n : Nat) : Byte := BitVec.ofNat 8 n

/-- `i` has the encoding `bytes`, and executing it in `s` completes: it answers `t` with the count CYCLES gives it reported, `k` by
the default table. `t` is a whole state, so everything the statement does not write is said to be unchanged. -/
def Executes (i : Instr) (bytes : List Byte) (k : Nat) (s t : State) : Prop :=
  encode i = bytes ∧ exec i s = .next (t.report (cyclesFor s.params i.key true k))

/-- The same of a conditional instruction: `k` cycles where the condition holds, `kNot` where it does not. -/
def ExecutesCond (i : Instr) (bytes : List Byte) (taken : Bool) (k kNot : Nat) (s t : State) : Prop :=
  encode i = bytes ∧ exec i s = .next (t.report (cyclesFor s.params i.key taken (if taken then k else kNot)))

/-- Register forms take `k` cycles, (HL) forms `kHL`. -/
def byLoc (l : Loc) (k kHL : Nat) : Nat := if l = .atHL then kHL else k

/-- The condition `cc` on the flags Z and C (44_control.md R270). -/
def holdsCond (cc : Cond) (f : Flags) : Bool :=
  match cc with
  | .nz => f.z == false
  | .z => f.z == true
  | .nc => f.c == false
  | .c => f.c == true

/-- A Boolean as the number 0 or 1. -/
def bit (x : Bool) : Nat := if x then 1 else 0

/-- The state past the fetch of `len` bytes (10_state.md R38, 30_encoding.md R101): PC has moved by the length, one less under the halt bug,
which is spent. -/
def past (s : State) (len : Nat) : State :=
  { s with pc := s.pc + BitVec.ofNat 16 (if s.haltBug then len - 1 else len), haltBug := false }

/-- The result and the carry out of the shift functions of 43_rotate_bit.md R244, as arithmetic on the byte's number. -/
def shifted (op : RotOp) (v cin : Nat) : Nat × Bool :=
  match op with
  | .rlc => (2 * v % 256 + v / 128, v / 128 == 1)
  | .rrc => (v / 2 + 128 * (v % 2), v % 2 == 1)
  | .rl => (2 * v % 256 + cin, v / 128 == 1)
  | .rr => (v / 2 + 128 * cin, v % 2 == 1)
  | .sla => (2 * v % 256, v / 128 == 1)
  | .sra => (v / 2 + 128 * (v / 128), v % 2 == 1)
  | .swap => (16 * (v % 16) + v / 16, false)
  | .srl => (v / 2, v % 2 == 1)

/-- The value a store of `v` leaves to be read at `a` (20_memory.md R74): 0 at DIV, the unstored bits 1 at TAC and IF, else `v`. -/
def readBack (a : Word) (v : Byte) : Byte :=
  if a = 0xFF04 then 0
  else if a = 0xFF07 then 0xF8 ||| v
  else if a = 0xFF0F then 0xE0 ||| v
  else v

/-- Memory differs, if at all, at the listed addresses only: with BUS = FLAT_RAM every other byte reads as before; with any BUS every
block register at another address does (what another byte of the bus then reads is the bus's to say), and where all the listed
addresses are block registers' the bus is as it was, so that every other byte reads as before. -/
def OnlyAt (addrs : List Word) (s t : State) : Prop :=
  (∀ a, a ∉ addrs → s.bus.isFlatRam = true ∨ blockReg? a ≠ none ∨ (∀ x ∈ addrs, blockReg? x ≠ none) → t.memRead a = s.memRead a) ∧
  ((∀ x ∈ addrs, blockReg? x ≠ none) → t.bus = s.bus)

end Sys2Proof.Claims

open Sys2Proof Sys2Proof.Machine Sys2Proof.Claims

/-! ## Loads, stores and stack transfers -/

/-- R141. -/
def Obligations.LoadRegisterFromRegister : Prop :=
  ∀ (dst src : Reg8) (s : State),
    Executes (.ldRegReg dst src) [byte (0x40 + 8 * regCode dst + regCode src)] 4 s ((past s 1).setReg dst (s.getReg src))

/-- R142 and R145. -/
def Obligations.LoadImmediateByte : Prop :=
  (∀ (r : Reg8) (n : Byte) (s : State),
    Executes (.ldLocImm (.reg r) n) [byte (0x06 + 8 * regCode r), n] 8 s ((past s 2).setReg r n)) ∧
  ∀ (n : Byte) (s : State),
    Executes (.ldLocImm .atHL n) [0x36, n] 12 s ((past s 2).memWrite s.hl n) ∧ OnlyAt [s.hl] s ((past s 2).memWrite s.hl n)

/-- R143 and R144. -/
def Obligations.LoadThroughHL : Prop :=
  (∀ (r : Reg8) (s : State),
    Executes (.ldRegAtHL r) [byte (0x46 + 8 * regCode r)] 8 s ((past s 1).setReg r (s.memRead s.hl))) ∧
  ∀ (r : Reg8) (s : State),
    Executes (.ldAtHLReg r) [byte (0x70 + regCode r)] 8 s ((past s 1).memWrite s.hl (s.getReg r)) ∧
    OnlyAt [s.hl] s ((past s 1).memWrite s.hl (s.getReg r))

/-- R146, R147, R150, R152, R154. -/
def Obligations.LoadAccumulatorFromMemory : Prop :=
  ∀ (n : Byte) (nn : Word) (s : State),
    Executes .ld_a_atBC [0x0A] 8 s { past s 1 with a := s.memRead (s.b ++ s.c) } ∧
    Executes .ld_a_atDE [0x1A] 8 s { past s 1 with a := s.memRead (s.d ++ s.e) } ∧
    Executes (.ld_a_atNN nn) [0xFA, loByte nn, hiByte nn] 16 s { past s 3 with a := s.memRead nn } ∧
    Executes (.ldh_a_atN n) [0xF0, n] 12 s { past s 2 with a := s.memRead (0xFF#8 ++ n) } ∧
    Executes .ld_a_atC [0xF2] 8 s { past s 1 with a := s.memRead (0xFF#8 ++ s.c) }

/-- R148, R149, R151, R153, R155. -/
def Obligations.StoreAccumulatorToMemory : Prop :=
  ∀ (n : Byte) (nn : Word) (s : State),
    Executes .ld_atBC_a [0x02] 8 s ((past s 1).memWrite (s.b ++ s.c) s.a) ∧
    Executes .ld_atDE_a [0x12] 8 s ((past s 1).memWrite (s.d ++ s.e) s.a) ∧
    Executes (.ld_atNN_a nn) [0xEA, loByte nn, hiByte nn] 16 s ((past s 3).memWrite nn s.a) ∧
    Executes (.ldh_atN_a n) [0xE0, n] 12 s ((past s 2).memWrite (0xFF#8 ++ n) s.a) ∧
    Executes .ld_atC_a [0xE2] 8 s ((past s 1).memWrite (0xFF#8 ++ s.c) s.a) ∧
    ∀ (len : Nat) (addr : Word), OnlyAt [addr] s ((past s len).memWrite addr s.a)

/-- R156 to R159: the access is at HL as it was, and HL moves by one with wrap. -/
def Obligations.LoadAndStoreMovingHL : Prop :=
  ∀ s : State,
    Executes .ld_a_atHLI [0x2A] 8 s ({ past s 1 with a := s.memRead s.hl }.setHL (BitVec.ofNat 16 (s.hl.toNat + 1))) ∧
    Executes .ld_a_atHLD [0x3A] 8 s ({ past s 1 with a := s.memRead s.hl }.setHL (BitVec.ofNat 16 (s.hl.toNat + 65535))) ∧
    Executes .ld_atHLI_a [0x22] 8 s (((past s 1).memWrite s.hl s.a).setHL (BitVec.ofNat 16 (s.hl.toNat + 1))) ∧
    Executes .ld_atHLD_a [0x32] 8 s (((past s 1).memWrite s.hl s.a).setHL (BitVec.ofNat 16 (s.hl.toNat + 65535))) ∧
    OnlyAt [s.hl] s (((past s 1).memWrite s.hl s.a).setHL (BitVec.ofNat 16 (s.hl.toNat + 1))) ∧
    OnlyAt [s.hl] s (((past s 1).memWrite s.hl s.a).setHL (BitVec.ofNat 16 (s.hl.toNat + 65535)))

/-- R162 and R164. -/
def Obligations.LoadPair : Prop :=
  (∀ (rr : Pair) (nn : Word) (s : State),
    Executes (.ldPairImm rr nn) [byte (0x01 + 16 * pairCode rr), loByte nn, hiByte nn] 12 s ((past s 3).setPair rr nn)) ∧
  ∀ s : State, Executes .ld_sp_hl [0xF9] 8 s { past s 1 with sp := s.h ++ s.l }

/-- R163: the low byte at nn, then the high byte at nn + 1. -/
def Obligations.StoreStackPointer : Prop :=
  ∀ (nn : Word) (s : State),
    Executes (.ld_atNN_sp nn) [0x08, loByte nn, hiByte nn] 20 s
      (((past s 3).memWrite nn (loByte s.sp)).memWrite (nn + 1) (hiByte s.sp)) ∧
    OnlyAt [nn, nn + 1] s (((past s 3).memWrite nn (loByte s.sp)).memWrite (nn + 1) (hiByte s.sp))

/-- R165, with Push16 of R160 written out. -/
def Obligations.PushPair : Prop :=
  ∀ (rr : StackPair) (s : State),
    let t := { ((past s 1).memWrite (s.sp - 1) (hiByte (s.getStackPair rr))).memWrite (s.sp - 2) (loByte (s.getStackPair rr)) with
      sp := s.sp - 2 }
    Executes (.pushPair rr) [byte (0xC5 + 16 * stackPairCode rr)] 16 s t ∧ OnlyAt [s.sp - 1, s.sp - 2] s t

/-- R166 and R167, with Pop16 of R161 written out. -/
def Obligations.PopPair : Prop :=
  (∀ (rr : StackPair) (s : State), rr ≠ .af →
    Executes (.popPair rr) [byte (0xC1 + 16 * stackPairCode rr)] 12 s
      ({ past s 1 with sp := s.sp + 2 }.setStackPair rr (s.memRead (s.sp + 1) ++ s.memRead s.sp))) ∧
  ∀ s : State,
    Executes .pop_af [0xF1] 12 s
      { past s 1 with
        sp := s.sp + 2
        a := s.memRead (s.sp + 1)
        flags := {
          z := (s.memRead s.sp).getLsbD 7
          n := (s.memRead s.sp).getLsbD 6
          h := (s.memRead s.sp).getLsbD 5
          c := (s.memRead s.sp).getLsbD 4 } }

/-! ## 8-bit arithmetic and logic -/

namespace Sys2Proof.Claims

/-- The state after an addition of `b` and a carry in to A (R17, R181), on unbounded numbers. -/
def added (s : State) (len : Nat) (b : Byte) (cin : Bool) : State :=
  let sum := s.a.toNat + b.toNat + bit cin
  { past s len with
    a := byte sum
    flags := {
      z := sum % 256 == 0
      n := false
      h := decide (s.a.toNat % 16 + b.toNat % 16 + bit cin > 0xF)
      c := decide (sum > 0xFF) } }

/-- The flags of the subtraction of `b` and a borrow in from A (R17, R181). -/
def differenceFlags (s : State) (b : Byte) (cin : Bool) : Flags where
  z := decide (((s.a.toNat : Int) - b.toNat - bit cin) % 256 = 0)
  n := true
  h := decide (s.a.toNat % 16 < b.toNat % 16 + bit cin)
  c := decide (s.a.toNat < b.toNat + bit cin)

/-- The state after that subtraction. -/
def subtracted (s : State) (len : Nat) (b : Byte) (cin : Bool) : State :=
  { past s len with
    a := BitVec.ofInt 8 ((s.a.toNat : Int) - b.toNat - bit cin)
    flags := differenceFlags s b cin }

/-- The state after a logical operation whose result is `v` (R194-R202). -/
def logical (s : State) (len : Nat) (v : Byte) (half : Bool) : State :=
  { past s len with a := v, flags := { z := decide (v = 0), n := false, h := half, c := false } }

end Sys2Proof.Claims

/-- R182 to R187. -/
def Obligations.AddAndAddWithCarry : Prop :=
  ∀ (l : Loc) (n : Byte) (s : State),
    Executes (.aluLoc .add l) [byte (0x80 + locCode l)] (byLoc l 4 8) s (added s 1 (s.readLoc l) false) ∧
    Executes (.aluImm .add n) [0xC6, n] 8 s (added s 2 n false) ∧
    Executes (.aluLoc .adc l) [byte (0x88 + locCode l)] (byLoc l 4 8) s (added s 1 (s.readLoc l) s.flags.c) ∧
    Executes (.aluImm .adc n) [0xCE, n] 8 s (added s 2 n s.flags.c)

/-- R188 to R193. -/
def Obligations.SubtractAndSubtractWithCarry : Prop :=
  ∀ (l : Loc) (n : Byte) (s : State),
    Executes (.aluLoc .sub l) [byte (0x90 + locCode l)] (byLoc l 4 8) s (subtracted s 1 (s.readLoc l) false) ∧
    Executes (.aluImm .sub n) [0xD6, n] 8 s (subtracted s 2 n false) ∧
    Executes (.aluLoc .sbc l) [byte (0x98 + locCode l)] (byLoc l 4 8) s (subtracted s 1 (s.readLoc l) s.flags.c) ∧
    Executes (.aluImm .sbc n) [0xDE, n] 8 s (subtracted s 2 n s.flags.c)

/-- R194 to R202. -/
def Obligations.LogicalOperations : Prop :=
  ∀ (l : Loc) (n : Byte) (s : State),
    Executes (.aluLoc .and l) [byte (0xA0 + locCode l)] (byLoc l 4 8) s (logical s 1 (s.a &&& s.readLoc l) true) ∧
    Executes (.aluImm .and n) [0xE6, n] 8 s (logical s 2 (s.a &&& n) true) ∧
    Executes (.aluLoc .xor l) [byte (0xA8 + locCode l)] (byLoc l 4 8) s (logical s 1 (s.a ^^^ s.readLoc l) false) ∧
    Executes (.aluImm .xor n) [0xEE, n] 8 s (logical s 2 (s.a ^^^ n) false) ∧
    Executes (.aluLoc .or l) [byte (0xB0 + locCode l)] (byLoc l 4 8) s (logical s 1 (s.a ||| s.readLoc l) false) ∧
    Executes (.aluImm .or n) [0xF6, n] 8 s (logical s 2 (s.a ||| n) false)

/-- R203 to R205: the flags of the subtraction, and nothing else. -/
def Obligations.Compare : Prop :=
  ∀ (l : Loc) (n : Byte) (s : State),
    Executes (.aluLoc .cp l) [byte (0xB8 + locCode l)] (byLoc l 4 8) s
      { past s 1 with flags := differenceFlags s (s.readLoc l) false } ∧
    Executes (.aluImm .cp n) [0xFE, n] 8 s { past s 2 with flags := differenceFlags s n false }

/-- R206 to R209: C is unchanged. -/
def Obligations.IncrementAndDecrement : Prop :=
  ∀ (l : Loc) (s : State),
    Executes (.incLoc l) [byte (0x04 + 8 * locCode l)] (byLoc l 4 12) s
      { (past s 1).writeLoc l (byte ((s.readLoc l).toNat + 1)) with
        flags := {
          z := (s.readLoc l).toNat == 255
          n := false
          h := (s.readLoc l).toNat % 16 == 15
          c := s.flags.c } } ∧
    Executes (.decLoc l) [byte (0x05 + 8 * locCode l)] (byLoc l 4 12) s
      { (past s 1).writeLoc l (byte ((s.readLoc l).toNat + 255)) with
        flags := {
          z := (s.readLoc l).toNat == 1
          n := true
          h := (s.readLoc l).toNat % 16 == 0
          c := s.flags.c } }

namespace Sys2Proof.Claims

/-- The correction of DAA (R210) step by step, on the number of A: the corrected number, not yet reduced, and the new C. -/
def daaCorrected (a : Nat) (f : Flags) : Int × Bool :=
  if f.n = false then
    let hi := f.c || decide (a > 0x99)
    let a1 : Int := if hi then a + 0x60 else a
    let a2 : Int := if f.h || decide (a % 16 > 0x09) then a1 + 0x06 else a1
    (a2, hi)
  else
    let a1 : Int := if f.c then a - 0x60 else a
    let a2 : Int := if f.h then a1 - 0x06 else a1
    (a2, f.c)

end Sys2Proof.Claims

/-- R210. -/
def Obligations.DecimalAdjust : Prop :=
  ∀ s : State,
    let r := daaCorrected s.a.toNat s.flags
    Executes .daa [0x27] 4 s
      { past s 1 with
        a := BitVec.ofInt 8 r.1
        flags := { z := decide (r.1 % 256 = 0), n := s.flags.n, h := false, c := r.2 } }

/-- The first half of the source's DAA property (95_test_vectors.md section 1.4): after the addition of two BCD bytes DAA leaves the BCD of their sum
and the carry out of it. -/
def Obligations.DecimalAdjustAddsBcd : Prop :=
  ∀ (x y : Fin 100) (s : State) (r : Reg8), r ≠ .a →
    s.a = byte (16 * (x.val / 10) + x.val % 10) → s.getReg r = byte (16 * (y.val / 10) + y.val % 10) →
    ∃ t u, exec (.aluLoc .add (.reg r)) s = .next t ∧ exec .daa t = .next u ∧
      u.a = byte (16 * ((x.val + y.val) % 100 / 10) + (x.val + y.val) % 10) ∧ u.flags.c = decide (x.val + y.val > 99)

/-- R211 to R213. -/
def Obligations.ComplementAndCarryFlag : Prop :=
  ∀ s : State,
    Executes .cpl [0x2F] 4 s
      { past s 1 with a := byte (255 - s.a.toNat), flags := { z := s.flags.z, n := true, h := true, c := s.flags.c } } ∧
    Executes .scf [0x37] 4 s { past s 1 with flags := { z := s.flags.z, n := false, h := false, c := true } } ∧
    Executes .ccf [0x3F] 4 s
      { past s 1 with flags := { z := s.flags.z, n := false, h := false, c := decide (1 - bit s.flags.c = 1) } }

/-! ## 16-bit arithmetic -/

/-- R220, R221, R222. -/
def Obligations.PairArithmetic : Prop :=
  ∀ (rr : Pair) (s : State),
    Executes (.addHLPair rr) [byte (0x09 + 16 * pairCode rr)] 8 s
      { (past s 1).setHL (BitVec.ofNat 16 (s.hl.toNat + (s.getPair rr).toNat)) with
        flags := {
          z := s.flags.z
          n := false
          h := decide (s.hl.toNat % 0x1000 + (s.getPair rr).toNat % 0x1000 > 0xFFF)
          c := decide (s.hl.toNat + (s.getPair rr).toNat > 0xFFFF) } } ∧
    Executes (.incPair rr) [byte (0x03 + 16 * pairCode rr)] 8 s
      ((past s 1).setPair rr (BitVec.ofNat 16 ((s.getPair rr).toNat + 1))) ∧
    Executes (.decPair rr) [byte (0x0B + 16 * pairCode rr)] 8 s
      ((past s 1).setPair rr (BitVec.ofNat 16 ((s.getPair rr).toNat + 65535)))

/-- R223 and R224: the 16-bit sum, with the flags of the unsigned 8-bit addition of SP's low byte and the raw byte. -/
def Obligations.StackPointerOffset : Prop :=
  ∀ (e : Byte) (s : State),
    let sum : Word := BitVec.ofInt 16 ((s.sp.toNat : Int) + e.toInt)
    let f : Flags := {
      z := false
      n := false
      h := decide (s.sp.toNat % 16 + e.toNat % 16 > 0xF)
      c := decide (s.sp.toNat % 256 + e.toNat > 0xFF) }
    Executes (.add_sp_e e) [0xE8, e] 16 s { past s 2 with sp := sum, flags := f } ∧
    Executes (.ld_hl_sp_e e) [0xF8, e] 12 s { (past s 2).setHL sum with flags := f }

/-! ## Rotates, shifts and single bits -/

/-- R240 to R243: Z is 0 whatever the result. -/
def Obligations.AccumulatorRotates : Prop :=
  ∀ s : State,
    let result (op : RotOp) : State :=
      let r := shifted op s.a.toNat (bit s.flags.c)
      { past s 1 with a := byte r.1, flags := { z := false, n := false, h := false, c := r.2 } }
    Executes .rlca [0x07] 4 s (result .rlc) ∧ Executes .rrca [0x0F] 4 s (result .rrc) ∧
    Executes .rla [0x17] 4 s (result .rl) ∧ Executes .rra [0x1F] 4 s (result .rr)

/-- R245 to R257, the register forms, and SWAP r (R259). -/
def Obligations.RotateAndShiftRegister : Prop :=
  ∀ (op : RotOp) (r : Reg8) (s : State),
    let x := shifted op (s.getReg r).toNat (bit s.flags.c)
    Executes (.rotLoc op (.reg r)) [0xCB, byte (8 * rotCode op + regCode r)] 8 s
      { (past s 2).setReg r (byte x.1) with flags := { z := x.1 == 0, n := false, h := false, c := x.2 } }

/-- R246 to R258, the (HL) forms, and SWAP (HL) (R260). -/
def Obligations.RotateAndShiftMemory : Prop :=
  ∀ (op : RotOp) (s : State),
    let x := shifted op (s.memRead s.hl).toNat (bit s.flags.c)
    let t := { (past s 2).memWrite s.hl (byte x.1) with flags := { z := x.1 == 0, n := false, h := false, c := x.2 } }
    Executes (.rotLoc op .atHL) [0xCB, byte (8 * rotCode op + 6)] 16 s t ∧ OnlyAt [s.hl] s t

/-- R259: SWAP twice restores every 8-bit register but F (the source's involution property, 95_test_vectors.md section 1.3). -/
def Obligations.SwapTwiceRestores : Prop :=
  ∀ (r : Reg8) (s : State), ∃ t u,
    exec (.rotLoc .swap (.reg r)) s = .next t ∧ exec (.rotLoc .swap (.reg r)) t = .next u ∧
    (∀ q : Reg8, u.getReg q = s.getReg q) ∧ u.flags.z = decide (s.getReg r = 0) ∧
    u.flags.n = false ∧ u.flags.h = false ∧ u.flags.c = false

/-- R261 and R262: only F is written, and C is unchanged. -/
def Obligations.TestBit : Prop :=
  ∀ (b : Fin 8) (l : Loc) (s : State),
    Executes (.bitLoc b l) [0xCB, byte (0x40 + 8 * b.val + locCode l)] (byLoc l 8 12) s
      { past s 2 with
        flags := { z := (s.readLoc l).toNat / 2 ^ b.val % 2 == 0, n := false, h := true, c := s.flags.c } }

/-- R263 to R266: no flag is written. -/
def Obligations.ResetAndSetBit : Prop :=
  ∀ (b : Fin 8) (l : Loc) (s : State),
    let v := (s.readLoc l).toNat
    Executes (.resLoc b l) [0xCB, byte (0x80 + 8 * b.val + locCode l)] (byLoc l 8 16) s
      ((past s 2).writeLoc l (byte (v - v / 2 ^ b.val % 2 * 2 ^ b.val))) ∧
    Executes (.setLoc b l) [0xCB, byte (0xC0 + 8 * b.val + locCode l)] (byLoc l 8 16) s
      ((past s 2).writeLoc l (byte (v + (1 - v / 2 ^ b.val % 2) * 2 ^ b.val)))

/-! ## Control transfer -/

/-- R271 to R275. -/
def Obligations.Jumps : Prop :=
  ∀ (cc : Cond) (nn : Word) (e : Byte) (s : State),
    let far : Word := BitVec.ofInt 16 (((past s 2).pc.toNat : Int) + e.toInt)
    Executes (.jp_nn nn) [0xC3, loByte nn, hiByte nn] 16 s { past s 3 with pc := nn } ∧
    ExecutesCond (.jpCond cc nn) [byte (0xC2 + 8 * condCode cc), loByte nn, hiByte nn] (holdsCond cc s.flags) 16 12 s
      (if holdsCond cc s.flags then { past s 3 with pc := nn } else past s 3) ∧
    Executes .jp_hl [0xE9] 4 s { past s 1 with pc := s.h ++ s.l } ∧
    Executes (.jr_e e) [0x18, e] 12 s { past s 2 with pc := far } ∧
    ExecutesCond (.jrCond cc e) [byte (0x20 + 8 * condCode cc), e] (holdsCond cc s.flags) 12 8 s
      (if holdsCond cc s.flags then { past s 2 with pc := far } else past s 2)

namespace Sys2Proof.Claims

/-- The state after a call from `u` to `target`: the address `u.pc` of the next instruction is pushed, its high byte at SP-1 and then
its low byte at SP-2 (40_loads.md R160), and PC set. -/
def called (u : State) (target : Word) : State :=
  { (u.memWrite (u.sp - 1) (hiByte u.pc)).memWrite (u.sp - 2) (loByte u.pc) with sp := u.sp - 2, pc := target }

/-- The state after a return: PC popped, low byte at SP, high byte at SP+1 (40_loads.md R161). -/
def returned (u : State) : State := { u with pc := u.memRead (u.sp + 1) ++ u.memRead u.sp, sp := u.sp + 2 }

end Sys2Proof.Claims

/-- R276, R277 and R281: calls and restarts. -/
def Obligations.CallsAndRestarts : Prop :=
  ∀ (cc : Cond) (nn : Word) (y : Fin 8) (s : State),
    Executes (.call_nn nn) [0xCD, loByte nn, hiByte nn] 24 s (called (past s 3) nn) ∧
    OnlyAt [s.sp - 1, s.sp - 2] s (called (past s 3) nn) ∧
    ExecutesCond (.callCond cc nn) [byte (0xC4 + 8 * condCode cc), loByte nn, hiByte nn] (holdsCond cc s.flags) 24 12 s
      (if holdsCond cc s.flags then called (past s 3) nn else past s 3) ∧
    Executes (.rst y) [byte (0xC7 + 8 * y.val)] 16 s (called (past s 1) (BitVec.ofNat 16 (8 * y.val))) ∧
    OnlyAt [s.sp - 1, s.sp - 2] s (called (past s 1) (BitVec.ofNat 16 (8 * y.val)))

/-- R278, R279 and R280: returns; RETI sets IME at once. -/
def Obligations.Returns : Prop :=
  ∀ (cc : Cond) (s : State),
    Executes .ret [0xC9] 16 s (returned (past s 1)) ∧
    ExecutesCond (.retCond cc) [byte (0xC0 + 8 * condCode cc)] (holdsCond cc s.flags) 20 8 s
      (if holdsCond cc s.flags then returned (past s 1) else past s 1) ∧
    Executes .reti [0xD9] 16 s { returned (past s 1) with ime := true }

/-- The source's CALL and RET property (95_test_vectors.md section 1.7): a RET executed right after a CALL restores SP, and returns to
the address past the CALL where the two stack bytes are FLAT_RAM's. -/
def Obligations.CallThenReturnRestores : Prop :=
  ∀ (nn : Word) (s : State),
    ∃ t u, exec (.call_nn nn) s = .next t ∧ t.pc = nn ∧ exec .ret t = .next u ∧ u.sp = s.sp ∧
      (s.bus.isFlatRam = true → blockReg? (s.sp - 1) = none → blockReg? (s.sp - 2) = none → u.pc = (past s 3).pc)

/-! ## System instructions -/

/-- R300, R301 and R304. -/
def Obligations.NopDiEi : Prop :=
  ∀ s : State,
    Executes .nop [0x00] 4 s (past s 1) ∧
    Executes .di [0xF3] 4 s { past s 1 with ime := false } ∧
    Executes .ei [0xFB] 4 s { past s 1 with ime := true }

/-- R302. -/
def Obligations.HaltOrHaltBug : Prop :=
  ∀ s : State,
    Executes .halt [0x76] 4 s
      (if s.ime = false ∧ s.ie &&& s.iflag.setWidth 8 &&& 0x1F ≠ 0 then { past s 1 with haltBug := true }
       else { past s 1 with halted := true })

/-- R303: the effect of the instruction, whatever its second byte is. -/
def Obligations.StopClearsDivider : Prop :=
  ∀ (x : Byte) (s : State),
    Executes (.stop x) [0x10, x] 4 s { past s 2 with div := 0, divAcc := 0, stopped := true } ∧
    OnlyAt [0xFF04] s { past s 2 with div := 0, divAcc := 0, stopped := true }

namespace Sys2Proof.Claims

/-- The eleven illegal bytes (30_encoding.md R117). -/
def illegalByte : IllegalByte → Byte
  | .d3 => 0xD3 | .db => 0xDB | .dd => 0xDD | .e3 => 0xE3 | .e4 => 0xE4 | .eb => 0xEB
  | .ec => 0xEC | .ed => 0xED | .f4 => 0xF4 | .fc => 0xFC | .fd => 0xFD

end Sys2Proof.Claims

/-- R305: the fault recorded is the byte and the address it was read from; the host reads it with its cause code 0 (R323). -/
def Obligations.IllegalOpcodeLocks : Prop :=
  ∀ (b : IllegalByte) (s : State),
    encode (.illegal b) = [illegalByte b] ∧
    exec (.illegal b) s = .next
      { past s 1 with locked := true, fault := some { op := illegalByte b, addr := s.pc }, cycles := 4 } ∧
    ∀ t, exec (.illegal b) s = .next t → t.hostRead .fault = .fault (some (0, { op := illegalByte b, addr := s.pc }))

/-! ## Registers and memory -/

/-- R30, R31: a write of one 8-bit register changes it alone, and a write of a pair changes its two halves alone. -/
def Obligations.RegisterWritesAreIsolated : Prop :=
  ∀ (s : State) (v : Byte) (w : Word),
    (∀ r q : Reg8, (s.setReg r v).getReg q = if q = r then v else s.getReg q) ∧
    (∀ r : Reg8, { s.setReg r v with a := s.a, b := s.b, c := s.c, d := s.d, e := s.e, h := s.h, l := s.l } = s) ∧
    s.setPair .bc w = { s with b := byte (w.toNat / 256), c := byte w.toNat } ∧
    s.setPair .de w = { s with d := byte (w.toNat / 256), e := byte w.toNat } ∧
    s.setPair .hl w = { s with h := byte (w.toNat / 256), l := byte w.toNat } ∧
    s.setPair .sp w = { s with sp := w } ∧
    s.getPair .bc = BitVec.ofNat 16 (s.b.toNat * 256 + s.c.toNat) ∧
    s.getPair .de = BitVec.ofNat 16 (s.d.toNat * 256 + s.e.toNat) ∧
    s.getPair .hl = BitVec.ofNat 16 (s.h.toNat * 256 + s.l.toNat) ∧ s.getPair .sp = s.sp

/-- R35, with the layout of R34: F's byte, its zero low nibble, and what a write of it stores. That F is held as four Booleans is the model's
choice (log entry 7). -/
def Obligations.FlagRegisterLayout : Prop :=
  ∀ (s : State) (w : Word),
    s.getStackPair .af = s.a ++ byte (128 * bit s.flags.z + 64 * bit s.flags.n + 32 * bit s.flags.h + 16 * bit s.flags.c) ∧
    (s.setStackPair .af w).getStackPair .af = w &&& 0xFFF0 ∧
    s.setStackPair .af (s.getStackPair .af) = s

/-- R74, the stores to the six block registers: what each writes, and that it writes nothing else. -/
def Obligations.BlockRegisterStores : Prop :=
  ∀ (s : State) (v : Byte),
    s.memWrite 0xFF04 v = { s with div := 0, divAcc := 0 } ∧
    s.memWrite 0xFF05 v = { s with tima := v } ∧
    s.memWrite 0xFF06 v = { s with tma := v } ∧
    s.memWrite 0xFF07 v =
      { s with
        tac := BitVec.ofNat 3 v.toNat
        countdown :=
          if v.toNat % 4 = s.tac.toNat % 4 then s.countdown
          else if v.toNat % 4 = 0 then 1024
          else if v.toNat % 4 = 1 then 16
          else if v.toNat % 4 = 2 then 64
          else 256 } ∧
    s.memWrite 0xFF0F v = { s with iflag := BitVec.ofNat 5 v.toNat } ∧
    s.memWrite 0xFFFF v = { s with ie := v } ∧
    s.memRead 0xFF04 = s.div ∧ s.memRead 0xFF05 = s.tima ∧ s.memRead 0xFF06 = s.tma ∧
    s.memRead 0xFF07 = byte (0xF8 + s.tac.toNat) ∧ s.memRead 0xFF0F = byte (0xE0 + s.iflag.toNat) ∧ s.memRead 0xFFFF = s.ie

/-- R73, R74, for every BUS: outside the six block registers a read is `busRead` of the bus state, and a store is `busWrite` of it and
changes nothing else. R83: under FLAT_RAM, and at a block register under any BUS, a read gives the last write to its address (as the
decoder reads it back), and no other address changes. -/
def Obligations.ReadAfterWrite : Prop :=
  ∀ (s : State) (a : Word) (v : Byte),
    (blockReg? a = none → s.memRead a = busRead s.bus a ∧ s.memWrite a v = { s with bus := busWrite s.bus a v }) ∧
    (s.bus.isFlatRam = true ∨ blockReg? a ≠ none →
      ∀ x : Word, (s.memWrite a v).memRead x = if x = a then readBack a v else s.memRead x)

/-- R161: Pop16 after Push16 restores SP, and gives the value back where the two bytes are FLAT_RAM's. -/
def Obligations.PopAfterPush : Prop :=
  ∀ (s : State) (v : Word),
    (s.push16 v).dropWord.sp = s.sp ∧
    (s.bus.isFlatRam = true → blockReg? (s.sp - 1) = none → blockReg? (s.sp - 2) = none →
      (s.push16 v).popValue = v ∧ (s.push16 v).memRead (s.sp - 1) = hiByte v ∧ (s.push16 v).memRead (s.sp - 2) = loByte v)

/-! ## Encoding -/

/-- Words written out from the spec's encodings decode to the instructions they stand for: one of each block of the map, as the
bytes are fetched. -/
def Obligations.DecodedWords : Prop :=
  decode [0x01, 0x34, 0x12] = .ok (.ld_bc_nn 0x1234, []) ∧
  decode [0x36, 0x99] = .ok (.ld_atHL_n 0x99, []) ∧
  decode [0x20, 0xFD] = .ok (.jr_nz_e 0xFD, []) ∧
  decode [0x10, 0x77] = .ok (.stop 0x77, []) ∧
  decode [0x78] = .ok (.ld_a_b, []) ∧
  decode [0x76] = .ok (.halt, []) ∧
  decode [0x9E] = .ok (.sbc_a_atHL, []) ∧
  decode [0xC4, 0x34, 0x12] = .ok (.call_nz_nn 0x1234, []) ∧
  decode [0xE0, 0x07] = .ok (.ldh_atN_a 0x07, []) ∧
  decode [0xF8, 0x02] = .ok (.ld_hl_sp_e 0x02, []) ∧
  decode [0xDD] = .ok (.illegal_dd, []) ∧
  decode [0xCB, 0x7C] = .ok (.bit_7_h, []) ∧
  decode [0xCB, 0x9E, 0x3C] = .ok (.res_3_atHL, [0x3C])

/-- Every instruction is read back from its own bytes, with every operand at every value, and the bytes after it are left. -/
def Obligations.DecodeOfEncode : Prop :=
  ∀ (i : Instr) (rest : List Byte), decode (encode i ++ rest) = .ok (i, rest)

/-- R119, R120: every byte value has one meaning, an instruction's bytes are those it was decoded from, and their number is told by the
first byte: 3 and 2 for the opcodes of the tables with two and one further bytes, else 1. -/
def Obligations.EncodeOfDecode : Prop :=
  ∀ op n1 n2 : Byte,
    encode (decodeInstr op n1 n2) = [op, n1, n2].take (instrLength op) ∧
    instrLength op =
      if op.toNat ∈ [0x01, 0x08, 0x11, 0x21, 0x31, 0xC2, 0xC3, 0xC4, 0xCA, 0xCC, 0xCD, 0xD2, 0xD4, 0xDA, 0xDC, 0xEA, 0xFA] then 3
      else if op.toNat ∈ [0x06, 0x0E, 0x10, 0x16, 0x18, 0x1E, 0x20, 0x26, 0x28, 0x2E, 0x30, 0x36, 0x38, 0x3E, 0xC6, 0xCB, 0xCE,
        0xD6, 0xDE, 0xE0, 0xE6, 0xE8, 0xEE, 0xF0, 0xF6, 0xF8, 0xFE] then 2
      else 1

/-! ## The step, interrupts and faults -/

/-- R320, R101: when the core is neither Locked nor Stopped, nor to stay halted, no dispatch is due, and the bytes at PC decode to
`i`, the step is `exec i` of the woken state, and then the timer advances by the count the instruction reported. The bytes are read at PC
and from PC+1, or under the halt bug from PC again. -/
def Obligations.StepRunsTheDecodedInstruction : Prop :=
  ∀ (s : State) (i : Instr) (rest : List Byte),
    s.locked = false → s.stopped = false → (s.halted = true → s.pending ≠ 0) → (s.ime = true → s.pending = 0) →
    decode (if s.haltBug then [s.memRead s.pc, s.memRead s.pc, s.memRead (s.pc + 1)]
      else [s.memRead s.pc, s.memRead (s.pc + 1), s.memRead (s.pc + 2)]) = .ok (i, rest) →
    ∃ t, exec i { s with halted := false } = .next t ∧ step s = .next (t.timerAdvance t.cycles)

/-- R322: no step ends in anything but a next state. -/
def Obligations.EveryStepAnswers : Prop :=
  ∀ s : State, (∃ t, step s = .next t) ∧ ∀ i : Instr, ∃ t, exec i s = .next t

namespace Sys2Proof.Claims

/-- A request of source `i` is pending (60_exceptions.md R331). -/
def pendingBit (s : State) (i : Nat) : Bool := s.ie.getLsbD i && s.iflag.getLsbD i

end Sys2Proof.Claims

/-- R320, R332, R334, R335: with IME = 1 and source `i` the lowest pending one, the step of a core neither Locked nor Stopped is the
dispatch of `i`, whether the core was halted or not: IME and that request are cleared, PC is pushed, PC is the vector, 20 cycles. Where
HALT stands at PC of a running core, as right after EI, that the step is the dispatch and pushes HALT's own address is the model's
choice (log entry 18): the corner case of R304 and R302 (a) say that HALT executes first. -/
def Obligations.DispatchOfTheLowestPending : Prop :=
  ∀ (s : State) (i : Fin 5),
    s.locked = false → s.stopped = false → s.ime = true → pendingBit s i.val = true → (∀ j : Nat, j < i.val → pendingBit s j = false) →
    step s = .next
      (({ called { s with halted := false, ime := false, iflag := s.iflag &&& ~~~BitVec.ofNat 5 (2 ^ i.val) }
            (BitVec.ofNat 16 (0x40 + 8 * i.val)) with
          cycles := 20 }).timerAdvance 20)

/-- R320, R332, R335 and R301: with IME = 0, or with nothing pending, no dispatch is made; with IME = 1 and something pending in a core
neither Locked nor Stopped, a dispatch is made, of the lowest pending source. It speaks of `State.phase`, the kind of step that `step`
matches on. That the step is a dispatch also where HALT stands at PC of a running core, as right after EI, is the model's choice (log
entry 18): the corner case of R304 and R302 (a) say that HALT executes first. -/
def Obligations.DispatchExactlyWhenDue : Prop :=
  ∀ s : State,
    ((∃ i, s.phase = .dispatch i) ↔ s.locked = false ∧ s.stopped = false ∧ s.ime = true ∧ ∃ j : Nat, j < 5 ∧ pendingBit s j = true) ∧
    ∀ i : Fin 5, s.phase = .dispatch i → pendingBit s i.val = true ∧ ∀ j : Nat, j < i.val → pendingBit s j = false

/-- R320, R303: a halted core with nothing pending does nothing but advance the timer by 4; a stopped core does not even that. -/
def Obligations.HaltedAndStoppedSteps : Prop :=
  (∀ s : State, s.locked = false → s.stopped = false → s.halted = true → s.ie &&& s.iflag.setWidth 8 &&& 0x1F = 0 →
    step s = .next ({ s with cycles := 4 }.timerAdvance 4)) ∧
  ∀ s : State, s.locked = false → s.stopped = true → step s = .next { s with cycles := 4 }

/-- R345: a Locked core takes 4 cycles a step for the timer, and nothing but the timer's state changes, whatever is pending. -/
def Obligations.LockedStepOnlyFeedsTheTimer : Prop :=
  ∀ s : State, s.locked = true →
    ∃ t, step s = .next t ∧ t = { s with cycles := 4 }.timerAdvance 4 ∧ t.locked = true ∧ t.fault = s.fault ∧
      { t with div := s.div, divAcc := s.divAcc, tima := s.tima, iflag := s.iflag, countdown := s.countdown, cycles := s.cycles } = s

/-! ## The timer -/

namespace Sys2Proof.Claims

/-- `TimaTick()` (R352) written out. -/
def ticked (s : State) : State :=
  if s.tima = 0xFF then { s with tima := s.tma, iflag := s.iflag ||| 4 } else { s with tima := s.tima + 1 }

/-- The period of a clock select (10_state.md R53). -/
def periodOf (sel : Nat) : Int := if sel = 0 then 1024 else if sel = 1 then 16 else if sel = 2 then 64 else 256

/-- The loop of R350 under `carry`: `CarryLoop s t` says that the loop entered in `s` ends in `t`. -/
inductive CarryLoop : State → State → Prop
  | done (s : State) : 0 < s.countdown → CarryLoop s s
  | again (s t : State) : s.countdown ≤ 0 →
      CarryLoop (ticked { s with countdown := s.countdown + periodOf (s.tac.toNat % 4) }) t → CarryLoop s t

end Sys2Proof.Claims

/-- R350 to R352. The divider: each full 256 cycles accumulated publish one increment of DIV, the rest is kept, and TAC has no say. The
countdown: disabled it holds; enabled the cycles are taken off, and then the loop of R350 runs: under `carry` a period is added and
TIMA ticked until the countdown is above 0, under `discard` the period is reloaded and TIMA ticked once. -/
def Obligations.TimerAdvanceRunsTheLoop : Prop :=
  ∀ (s : State) (k : Nat),
    let d := { s with div := s.div + BitVec.ofNat 8 ((s.divAcc + k) / 256), divAcc := (s.divAcc + k) % 256 }
    let c := s.countdown - (k : Int)
    (s.tac.getLsbD 2 = false → s.timerAdvance k = d) ∧
    (s.tac.getLsbD 2 = true → s.params.overshoot = .carry → CarryLoop { d with countdown := c } (s.timerAdvance k)) ∧
    (s.tac.getLsbD 2 = true → s.params.overshoot = .discard →
      s.timerAdvance k =
        if 0 < c then { d with countdown := c } else ticked { d with countdown := periodOf (s.tac.toNat % 4) })

/-- R351 under `carry`: how the cycles are cut into steps makes no difference to the timer. -/
def Obligations.CarryTimerAddsUp : Prop :=
  ∀ (s : State) (j k : Nat), s.params.overshoot = .carry → s.timerAdvance (j + k) = (s.timerAdvance j).timerAdvance k

/-! ## Whole-machine rules -/

namespace Sys2Proof.Claims

/-- What a row of the flag summary (R37) says of one flag. -/
inductive FlagEffect where
  | computed | zero | one | kept
  deriving DecidableEq, Repr

/-- What the effect asks of a flag's old and new value. -/
def FlagEffect.Obeyed (old new : Bool) : FlagEffect → Prop
  | .computed => True
  | .zero => new = false
  | .one => new = true
  | .kept => new = old

/-- The summary's rows for Z, N, H and C, by the number of the opcode row (10_state.md R37). -/
def flagSummary (key : Nat) : FlagEffect × FlagEffect × FlagEffect × FlagEffect :=
  let kept := (FlagEffect.kept, FlagEffect.kept, FlagEffect.kept, FlagEffect.kept)
  if (0x80 ≤ key ∧ key < 0xC0) ∨ (0xC0 ≤ key ∧ key < 0x100 ∧ key % 8 = 6) then
    match key / 8 % 8 with
    | 0 | 1 => (.computed, .zero, .computed, .computed)     -- ADD, ADC
    | 2 | 3 | 7 => (.computed, .one, .computed, .computed)  -- SUB, SBC, CP
    | 4 => (.computed, .zero, .one, .zero)                  -- AND
    | _ => (.computed, .zero, .zero, .zero)                 -- XOR, OR
  else if key < 0x40 ∧ key % 8 = 4 then (.computed, .zero, .computed, .kept)  -- INC r, INC (HL)
  else if key < 0x40 ∧ key % 8 = 5 then (.computed, .one, .computed, .kept)   -- DEC r, DEC (HL)
  else if key = 0x27 then (.computed, .kept, .zero, .computed)                -- DAA
  else if key = 0x2F then (.kept, .one, .one, .kept)                          -- CPL
  else if key = 0x37 then (.kept, .zero, .zero, .one)                         -- SCF
  else if key = 0x3F then (.kept, .zero, .zero, .computed)                    -- CCF
  else if key < 0x40 ∧ key % 16 = 9 then (.kept, .zero, .computed, .computed) -- ADD HL,rr
  else if key = 0xE8 ∨ key = 0xF8 then (.zero, .zero, .computed, .computed)   -- ADD SP,e; LD HL,SP+e
  else if key < 0x20 ∧ key % 8 = 7 then (.zero, .zero, .zero, .computed)      -- RLCA, RRCA, RLA, RRA
  else if 0x130 ≤ key ∧ key < 0x138 then (.computed, .zero, .zero, .zero)     -- SWAP
  else if 0x100 ≤ key ∧ key < 0x140 then (.computed, .zero, .zero, .computed) -- the CB rotates and shifts
  else if 0x140 ≤ key ∧ key < 0x180 then (.computed, .zero, .one, .kept)      -- BIT
  else if key = 0xF1 then (.computed, .computed, .computed, .computed)        -- POP AF
  else kept

end Sys2Proof.Claims

/-- R37, over every instruction. -/
def Obligations.FlagWritingSummary : Prop :=
  ∀ (i : Instr) (s t : State), exec i s = .next t →
    (flagSummary i.key).1.Obeyed s.flags.z t.flags.z ∧ (flagSummary i.key).2.1.Obeyed s.flags.n t.flags.n ∧
    (flagSummary i.key).2.2.1.Obeyed s.flags.h t.flags.h ∧ (flagSummary i.key).2.2.2.Obeyed s.flags.c t.flags.c

namespace Sys2Proof.Claims

/-- The default CYCLES table (70_reset_and_hazards.md R383), the unprefixed opcodes row by row: the count where the condition holds, and the count
where it does not (the same where there is no condition). 0 stands for the CB slot; the illegal opcodes take 4 (R320). -/
def cycleRows0 : List (List (Nat × Nat)) :=
  [[(4, 4), (12, 12), (8, 8), (8, 8), (4, 4), (4, 4), (8, 8), (4, 4), (20, 20), (8, 8), (8, 8), (8, 8), (4, 4), (4, 4), (8, 8), (4, 4)],
   [(4, 4), (12, 12), (8, 8), (8, 8), (4, 4), (4, 4), (8, 8), (4, 4), (12, 12), (8, 8), (8, 8), (8, 8), (4, 4), (4, 4), (8, 8), (4, 4)],
   [(12, 8), (12, 12), (8, 8), (8, 8), (4, 4), (4, 4), (8, 8), (4, 4), (12, 8), (8, 8), (8, 8), (8, 8), (4, 4), (4, 4), (8, 8), (4, 4)],
   [(12, 8), (12, 12), (8, 8), (8, 8), (12, 12), (12, 12), (12, 12), (4, 4), (12, 8), (8, 8), (8, 8), (8, 8), (4, 4), (4, 4), (8, 8), (4, 4)]]

/-- The rows C0 to F0. -/
def cycleRowsC : List (List (Nat × Nat)) :=
  [[(20, 8), (12, 12), (16, 12), (16, 16), (24, 12), (16, 16), (8, 8), (16, 16), (20, 8), (16, 16), (16, 12), (0, 0), (24, 12), (24, 24), (8, 8), (16, 16)],
   [(20, 8), (12, 12), (16, 12), (4, 4), (24, 12), (16, 16), (8, 8), (16, 16), (20, 8), (16, 16), (16, 12), (4, 4), (24, 12), (4, 4), (8, 8), (16, 16)],
   [(12, 12), (12, 12), (8, 8), (4, 4), (4, 4), (16, 16), (8, 8), (16, 16), (16, 16), (4, 4), (16, 16), (4, 4), (4, 4), (4, 4), (8, 8), (16, 16)],
   [(12, 12), (12, 12), (8, 8), (4, 4), (4, 4), (16, 16), (8, 8), (16, 16), (12, 12), (8, 8), (16, 16), (4, 4), (4, 4), (4, 4), (8, 8), (16, 16)]]

/-- The default count of a row of the opcode table: the rows 40 to B0 take 8 where an operand is (HL) and 4 elsewhere (HALT is 4), the CB
rows 16 where the operand is (HL), 12 for BIT, and 8 elsewhere. -/
def defaultCycles (key : Nat) (taken : Bool) : Nat :=
  let pick (p : Nat × Nat) : Nat := if taken then p.1 else p.2
  if key < 0x40 then pick ((cycleRows0.getD (key / 16) []).getD (key % 16) (0, 0))
  else if key < 0xC0 then
    if key = 0x76 then 4 else if key % 8 = 6 ∨ (0x70 ≤ key ∧ key < 0x78) then 8 else 4
  else if key < 0x100 then pick ((cycleRowsC.getD (key / 16 - 12) []).getD (key % 16) (0, 0))
  else if key % 8 = 6 then (if 0x140 ≤ key ∧ key < 0x180 then 12 else 16)
  else 8

/-- Whether the instruction's condition holds in `s`; an instruction without one counts as taken. -/
def pathTaken (key : Nat) (f : Flags) : Bool :=
  let conditional : Bool :=
    key == 0x20 || key == 0x28 || key == 0x30 || key == 0x38 ||
    (decide (0xC0 ≤ key) && decide (key < 0xE0) && (key % 8 == 0 || key % 8 == 2 || key % 8 == 4))
  if conditional then
    match key / 8 % 4 with
    | 0 => !f.z
    | 1 => f.z
    | 2 => !f.c
    | _ => f.c
  else true

/-- The illegal opcodes' rows (30_encoding.md R117). -/
def illegalKey (key : Nat) : Bool := [0xD3, 0xDB, 0xDD, 0xE3, 0xE4, 0xEB, 0xEC, 0xED, 0xF4, 0xFC, 0xFD].contains key

end Sys2Proof.Claims

/-- R383: the count every instruction reports, by its row and path, for every CYCLES table. How the table is held, and the field the
count is left in, are the model's choices (log entries 4 and 6). -/
def Obligations.CycleCounts : Prop :=
  ∀ (i : Instr) (s t : State), exec i s = .next t →
    t.cycles =
      if illegalKey i.key then 4
      else cyclesFor s.params i.key (pathTaken i.key s.flags) (defaultCycles i.key (pathTaken i.key s.flags))

namespace Sys2Proof.Claims

/-- The addresses at which an instruction executed in `s` may change what memory reads: where it stores, by its own operand, and
0xFF04, which STOP clears (20_memory.md R77). -/
def storeAddresses (i : Instr) (s : State) : List Word :=
  let push := [s.sp - 1, s.sp - 2]
  match i with
  | .ld_atNN_a nn => [nn]
  | .ld_atNN_sp nn => [nn, nn + 1]
  | .ldh_atN_a n => [0xFF#8 ++ n]
  | .ld_atHL_n _ => [s.hl]
  | .call_nn _ => push
  | .call_nz_nn _ => if s.flags.z = false then push else []
  | .call_z_nn _ => if s.flags.z = true then push else []
  | .call_nc_nn _ => if s.flags.c = false then push else []
  | .call_c_nn _ => if s.flags.c = true then push else []
  | .stop _ => [0xFF04]
  | _ =>
    let key := i.key
    if key = 0x02 then [s.bc]
    else if key = 0x12 then [s.de]
    else if key = 0x22 ∨ key = 0x32 ∨ key = 0x34 ∨ key = 0x35 then [s.hl]
    else if 0x70 ≤ key ∧ key < 0x78 ∧ key ≠ 0x76 then [s.hl]
    else if key = 0xE2 then [0xFF#8 ++ s.c]
    else if 0xC0 ≤ key ∧ key < 0x100 ∧ key % 8 = 7 then push
    else if key = 0xC5 ∨ key = 0xD5 ∨ key = 0xE5 ∨ key = 0xF5 then push
    else if 0x100 ≤ key ∧ key % 8 = 6 ∧ (key < 0x140 ∨ 0x180 ≤ key) then [s.hl]
    else []

end Sys2Proof.Claims

/-- The memory frame of every instruction: every byte outside the addresses it stores to reads as before, in the sense of `OnlyAt`. -/
def Obligations.MemoryFrame : Prop :=
  ∀ (i : Instr) (s t : State), exec i s = .next t → OnlyAt (storeAddresses i s) s t

namespace Sys2Proof.Claims

/-- The rows that may write an 8-bit register (10_state.md R32): LD r,…, INC/DEC r, the ALU on A (CP apart), the CB rows on it but BIT, POP, and
the 16-bit forms of its pair. -/
def writesReg (r : Reg8) (key : Nat) : Bool :=
  let c := regCode r
  let pairRows (p : Nat) : Bool :=
    key == 0x01 + 16 * p || key == 0x03 + 16 * p || key == 0x0B + 16 * p || key == 0xC1 + 16 * p
  (decide (0x40 ≤ key) && decide (key < 0x80) && key / 8 % 8 == c) ||
  (decide (key < 0x40) && key / 8 == c && (key % 8 == 4 || key % 8 == 5 || key % 8 == 6)) ||
  (decide (0x100 ≤ key) && key % 8 == c && !(decide (0x140 ≤ key) && decide (key < 0x180))) ||
  match r with
  | .b | .c => pairRows 0
  | .d | .e => pairRows 1
  | .h | .l =>
    pairRows 2 || [0x09, 0x19, 0x29, 0x39, 0x22, 0x2A, 0x32, 0x3A, 0xF8].contains key
  | .a =>
    (decide (0x80 ≤ key) && decide (key < 0xB8)) ||
    [0x0A, 0x1A, 0x2A, 0x3A, 0x07, 0x0F, 0x17, 0x1F, 0x27, 0x2F, 0xC6, 0xCE, 0xD6, 0xDE, 0xE6, 0xEE, 0xF6, 0xF0, 0xF1, 0xF2,
      0xFA].contains key

/-- The rows that may write SP (10_state.md R32). -/
def writesSP (key : Nat) : Bool :=
  [0x31, 0x33, 0x3B, 0xE8, 0xF9, 0xC1, 0xD1, 0xE1, 0xF1, 0xC5, 0xD5, 0xE5, 0xF5, 0xC0, 0xC8, 0xD0, 0xD8, 0xC9, 0xD9, 0xC4, 0xCC,
    0xD4, 0xDC, 0xCD, 0xC7, 0xCF, 0xD7, 0xDF, 0xE7, 0xEF, 0xF7, 0xFF].contains key

/-- The rows that set PC otherwise than past their bytes: jumps, calls, returns and restarts (44_control.md). -/
def transfersControl (key : Nat) : Bool :=
  [0x18, 0x20, 0x28, 0x30, 0x38, 0xC0, 0xC2, 0xC3, 0xC4, 0xC7, 0xC8, 0xC9, 0xCA, 0xCC, 0xCD, 0xCF, 0xD0, 0xD2, 0xD4, 0xD7, 0xD8,
    0xD9, 0xDA, 0xDC, 0xDF, 0xE7, 0xE9, 0xEF, 0xF7, 0xFF].contains key

end Sys2Proof.Claims

/-- R32, R38, R40, R44: which instructions write each register, PC otherwise than by the fetch, and the control bits. No instruction
changes a parameter (that these are held in the state is the model's choice, log entries 1, 3 and 4). -/
def Obligations.RegisterWriters : Prop :=
  ∀ (i : Instr) (s t : State), exec i s = .next t →
    (∀ r : Reg8, writesReg r i.key = false → t.getReg r = s.getReg r) ∧
    (writesSP i.key = false → t.sp = s.sp) ∧
    (transfersControl i.key = false → t.pc = (past s (encode i).length).pc) ∧
    (i.key ≠ 0xF3 → i.key ≠ 0xFB → i.key ≠ 0xD9 → t.ime = s.ime) ∧
    (i.key ≠ 0x76 → t.halted = s.halted ∧ t.haltBug = false) ∧
    (i.key ≠ 0x10 → t.stopped = s.stopped) ∧
    (illegalKey i.key = false → t.locked = s.locked ∧ t.fault = s.fault) ∧ t.params = s.params ∧
    t.bus.isFlatRam = s.bus.isFlatRam

/-- The invariant: the memory keeps its canonical form, the timer's counters their ranges, and the execution states stay exclusive,
over every step from every state that has it. -/
def Obligations.StepKeepsTheInvariant : Prop :=
  ∀ s t : State, s.Inv → step s = .next t → t.Inv

/-- It holds after every reset, on whatever bus with FLAT_RAM's memory canonical. -/
def Obligations.ResetHasTheInvariant : Prop :=
  ∀ (profile : ResetProfile) (ime : Bool) (p : Params) (bus : BusState), bus.wf = true → (State.resetTo profile ime p bus).Inv

/-- No host call between steps breaks it (R341). -/
def Obligations.HostCallsKeepTheInvariant : Prop :=
  ∀ (s : State) (call : HostCall), s.Inv → (s.hostCall call).Inv

/-- R56, R370, R371: the reset state of the default profile, every field the rule gives, and what POWER_ON fixes. The bus and the
parameters stay as they are (R372). The count 0, the empty FLAT_RAM of `State.reset` and its parameters are the model's choices (log
entries 1, 2, 5 and 6). -/
def Obligations.ResetValues : Prop :=
  ∀ (s : State) (ime : Bool) (d : PowerOnDraw),
    s.hostReset .dmgPostboot ime =
      { a := 0x01, flags := Flags.ofByte 0xB0, b := 0x00, c := 0x13, d := 0x00, e := 0xD8, h := 0x01, l := 0x4D, sp := 0xFFFE,
        pc := 0x0100, ime := ime, halted := false, haltBug := false, stopped := false, locked := false, fault := none,
        ie := 0x00, iflag := 0x01, div := 0xAB, divAcc := 0xCC, tima := 0x00, tma := 0x00, tac := 0, countdown := 1024,
        bus := s.bus, cycles := 0, params := s.params } ∧
    s.hostReset (.powerOn d) ime =
      { a := d.a, flags := d.flags, b := d.b, c := d.c, d := d.d, e := d.e, h := d.h, l := d.l, sp := d.sp,
        pc := 0x0000, ime := ime, halted := false, haltBug := false, stopped := false, locked := false, fault := none,
        ie := d.ie, iflag := d.iflag, div := 0x00, divAcc := 0, tima := 0x00, tma := 0x00, tac := 0, countdown := 1024,
        bus := s.bus, cycles := 0, params := s.params } ∧
    State.reset = { State.reset.hostReset .dmgPostboot false with bus := .flatRam [], params := { overshoot := .carry, cycleTable := [] } }

/-- R336, R340: a host's interrupt request sets its IF bit alone, and stopWake ends a stop alone. The clauses on a device's change of
the bus are the model's choice (log entries 1 and 11; R341 lets the host change bus state outside the block registers and gives no
call for it): `busChange` changes one byte of FLAT_RAM, and nothing at a block register's address, where R341 gives the host no move,
or under another BUS; `busEvent` gives another BUS any state, and changes nothing under FLAT_RAM. -/
def Obligations.HostCallEffects : Prop :=
  ∀ s : State,
    (∀ i : Fin 5, s.hostCall (.requestInterrupt i) = { s with iflag := s.iflag ||| BitVec.ofNat 5 (2 ^ i.val) }) ∧
    s.hostCall .stopWake = { s with stopped := false } ∧
    ∀ (a : Word) (v : Byte),
      (blockReg? a ≠ none ∨ s.bus.isFlatRam = false → s.hostCall (.busChange a v) = s) ∧
      (blockReg? a = none → s.bus.isFlatRam = true →
        (∃ m, s.hostCall (.busChange a v) = { s with bus := .flatRam m }) ∧
        ∀ x : Word, (s.hostCall (.busChange a v)).memRead x = if x = a then v else s.memRead x) ∧
      ∀ data : List Nat,
        s.hostCall (.busEvent data) = if s.bus.isFlatRam then s else { s with bus := .external data }

/-- R331 to R333, R385: a request latched by the host in a halted core with IME = 1 and the source enabled is dispatched by the very
next step, the highest-priority one first. -/
def Obligations.RequestWakesAndDispatches : Prop :=
  ∀ (s : State) (i : Fin 5), s.locked = false → s.stopped = false → s.halted = true → s.ime = true → s.ie.getLsbD i.val = true →
    (∀ j : Nat, j < i.val → pendingBit s j = false) →
    ∃ t, step (s.requestInterrupt i) = .next t ∧ t.halted = false ∧ t.ime = false ∧ t.pc = BitVec.ofNat 16 (0x40 + 8 * i.val) ∧
      t.sp = s.sp - 2
end

