-- ==== Sys2Proof/Laws/Families.lean ====
section
/-! SUPPORT. The instructions by family: a proof about every instruction is one case for each of the 24 operand families and one for each
instruction that stands alone, and `exec` of a whole family is one equation. -/

namespace Sys2Proof.Machine

/-- Case analysis over the instructions by family. -/
theorem instr_by_family {P : Instr → Prop}
    (fam_ldRegReg : ∀ (dst src : Reg8), P (.ldRegReg dst src))
    (fam_ldLocImm : ∀ (x : Loc) (n : Byte), P (.ldLocImm x n))
    (fam_ldRegAtHL : ∀ (dst : Reg8), P (.ldRegAtHL dst))
    (fam_ldAtHLReg : ∀ (src : Reg8), P (.ldAtHLReg src))
    (fam_aluLoc : ∀ (op : AluOp) (x : Loc), P (.aluLoc op x))
    (fam_aluImm : ∀ (op : AluOp) (n : Byte), P (.aluImm op n))
    (fam_incLoc : ∀ (x : Loc), P (.incLoc x))
    (fam_decLoc : ∀ (x : Loc), P (.decLoc x))
    (fam_ldPairImm : ∀ (rr : Pair) (nn : Word), P (.ldPairImm rr nn))
    (fam_addHLPair : ∀ (rr : Pair), P (.addHLPair rr))
    (fam_incPair : ∀ (rr : Pair), P (.incPair rr))
    (fam_decPair : ∀ (rr : Pair), P (.decPair rr))
    (fam_pushPair : ∀ (rr : StackPair), P (.pushPair rr))
    (fam_popPair : ∀ (rr : StackPair), P (.popPair rr))
    (fam_jpCond : ∀ (cc : Cond) (nn : Word), P (.jpCond cc nn))
    (fam_jrCond : ∀ (cc : Cond) (e : Byte), P (.jrCond cc e))
    (fam_callCond : ∀ (cc : Cond) (nn : Word), P (.callCond cc nn))
    (fam_retCond : ∀ (cc : Cond), P (.retCond cc))
    (fam_rst : ∀ (y : Fin 8), P (.rst y))
    (fam_illegal : ∀ (x : IllegalByte), P (.illegal x))
    (fam_rotLoc : ∀ (op : RotOp) (x : Loc), P (.rotLoc op x))
    (fam_bitLoc : ∀ (y : Fin 8) (x : Loc), P (.bitLoc y x))
    (fam_resLoc : ∀ (y : Fin 8) (x : Loc), P (.resLoc y x))
    (fam_setLoc : ∀ (y : Fin 8) (x : Loc), P (.setLoc y x))
    (fam_nop : P .nop)
    (fam_ld_atBC_a : P .ld_atBC_a)
    (fam_rlca : P .rlca)
    (fam_ld_atNN_sp : ∀ (nn : Word), P (.ld_atNN_sp nn))
    (fam_ld_a_atBC : P .ld_a_atBC)
    (fam_rrca : P .rrca)
    (fam_stop : ∀ (x : Byte), P (.stop x))
    (fam_ld_atDE_a : P .ld_atDE_a)
    (fam_rla : P .rla)
    (fam_jr_e : ∀ (e : Byte), P (.jr_e e))
    (fam_ld_a_atDE : P .ld_a_atDE)
    (fam_rra : P .rra)
    (fam_ld_atHLI_a : P .ld_atHLI_a)
    (fam_daa : P .daa)
    (fam_ld_a_atHLI : P .ld_a_atHLI)
    (fam_cpl : P .cpl)
    (fam_ld_atHLD_a : P .ld_atHLD_a)
    (fam_scf : P .scf)
    (fam_ld_a_atHLD : P .ld_a_atHLD)
    (fam_ccf : P .ccf)
    (fam_halt : P .halt)
    (fam_jp_nn : ∀ (nn : Word), P (.jp_nn nn))
    (fam_ret : P .ret)
    (fam_call_nn : ∀ (nn : Word), P (.call_nn nn))
    (fam_reti : P .reti)
    (fam_ldh_atN_a : ∀ (n : Byte), P (.ldh_atN_a n))
    (fam_ld_atC_a : P .ld_atC_a)
    (fam_add_sp_e : ∀ (e : Byte), P (.add_sp_e e))
    (fam_jp_hl : P .jp_hl)
    (fam_ld_atNN_a : ∀ (nn : Word), P (.ld_atNN_a nn))
    (fam_ldh_a_atN : ∀ (n : Byte), P (.ldh_a_atN n))
    (fam_ld_a_atC : P .ld_a_atC)
    (fam_di : P .di)
    (fam_ld_hl_sp_e : ∀ (e : Byte), P (.ld_hl_sp_e e))
    (fam_ld_sp_hl : P .ld_sp_hl)
    (fam_ld_a_atNN : ∀ (nn : Word), P (.ld_a_atNN nn))
    (fam_ei : P .ei)
    (i : Instr) : P i :=
  match i with
  | .nop => fam_nop
  | .ld_bc_nn nn => fam_ldPairImm .bc nn
  | .ld_atBC_a => fam_ld_atBC_a
  | .inc_bc => fam_incPair .bc
  | .inc_b => fam_incLoc (.reg .b)
  | .dec_b => fam_decLoc (.reg .b)
  | .ld_b_n n => fam_ldLocImm (.reg .b) n
  | .rlca => fam_rlca
  | .ld_atNN_sp nn => fam_ld_atNN_sp nn
  | .add_hl_bc => fam_addHLPair .bc
  | .ld_a_atBC => fam_ld_a_atBC
  | .dec_bc => fam_decPair .bc
  | .inc_c => fam_incLoc (.reg .c)
  | .dec_c => fam_decLoc (.reg .c)
  | .ld_c_n n => fam_ldLocImm (.reg .c) n
  | .rrca => fam_rrca
  | .stop x => fam_stop x
  | .ld_de_nn nn => fam_ldPairImm .de nn
  | .ld_atDE_a => fam_ld_atDE_a
  | .inc_de => fam_incPair .de
  | .inc_d => fam_incLoc (.reg .d)
  | .dec_d => fam_decLoc (.reg .d)
  | .ld_d_n n => fam_ldLocImm (.reg .d) n
  | .rla => fam_rla
  | .jr_e e => fam_jr_e e
  | .add_hl_de => fam_addHLPair .de
  | .ld_a_atDE => fam_ld_a_atDE
  | .dec_de => fam_decPair .de
  | .inc_e => fam_incLoc (.reg .e)
  | .dec_e => fam_decLoc (.reg .e)
  | .ld_e_n n => fam_ldLocImm (.reg .e) n
  | .rra => fam_rra
  | .jr_nz_e e => fam_jrCond .nz e
  | .ld_hl_nn nn => fam_ldPairImm .hl nn
  | .ld_atHLI_a => fam_ld_atHLI_a
  | .inc_hl => fam_incPair .hl
  | .inc_h => fam_incLoc (.reg .h)
  | .dec_h => fam_decLoc (.reg .h)
  | .ld_h_n n => fam_ldLocImm (.reg .h) n
  | .daa => fam_daa
  | .jr_z_e e => fam_jrCond .z e
  | .add_hl_hl => fam_addHLPair .hl
  | .ld_a_atHLI => fam_ld_a_atHLI
  | .dec_hl => fam_decPair .hl
  | .inc_l => fam_incLoc (.reg .l)
  | .dec_l => fam_decLoc (.reg .l)
  | .ld_l_n n => fam_ldLocImm (.reg .l) n
  | .cpl => fam_cpl
  | .jr_nc_e e => fam_jrCond .nc e
  | .ld_sp_nn nn => fam_ldPairImm .sp nn
  | .ld_atHLD_a => fam_ld_atHLD_a
  | .inc_sp => fam_incPair .sp
  | .inc_atHL => fam_incLoc .atHL
  | .dec_atHL => fam_decLoc .atHL
  | .ld_atHL_n n => fam_ldLocImm .atHL n
  | .scf => fam_scf
  | .jr_c_e e => fam_jrCond .c e
  | .add_hl_sp => fam_addHLPair .sp
  | .ld_a_atHLD => fam_ld_a_atHLD
  | .dec_sp => fam_decPair .sp
  | .inc_a => fam_incLoc (.reg .a)
  | .dec_a => fam_decLoc (.reg .a)
  | .ld_a_n n => fam_ldLocImm (.reg .a) n
  | .ccf => fam_ccf
  | .ld_b_b => fam_ldRegReg .b .b
  | .ld_b_c => fam_ldRegReg .b .c
  | .ld_b_d => fam_ldRegReg .b .d
  | .ld_b_e => fam_ldRegReg .b .e
  | .ld_b_h => fam_ldRegReg .b .h
  | .ld_b_l => fam_ldRegReg .b .l
  | .ld_b_atHL => fam_ldRegAtHL .b
  | .ld_b_a => fam_ldRegReg .b .a
  | .ld_c_b => fam_ldRegReg .c .b
  | .ld_c_c => fam_ldRegReg .c .c
  | .ld_c_d => fam_ldRegReg .c .d
  | .ld_c_e => fam_ldRegReg .c .e
  | .ld_c_h => fam_ldRegReg .c .h
  | .ld_c_l => fam_ldRegReg .c .l
  | .ld_c_atHL => fam_ldRegAtHL .c
  | .ld_c_a => fam_ldRegReg .c .a
  | .ld_d_b => fam_ldRegReg .d .b
  | .ld_d_c => fam_ldRegReg .d .c
  | .ld_d_d => fam_ldRegReg .d .d
  | .ld_d_e => fam_ldRegReg .d .e
  | .ld_d_h => fam_ldRegReg .d .h
  | .ld_d_l => fam_ldRegReg .d .l
  | .ld_d_atHL => fam_ldRegAtHL .d
  | .ld_d_a => fam_ldRegReg .d .a
  | .ld_e_b => fam_ldRegReg .e .b
  | .ld_e_c => fam_ldRegReg .e .c
  | .ld_e_d => fam_ldRegReg .e .d
  | .ld_e_e => fam_ldRegReg .e .e
  | .ld_e_h => fam_ldRegReg .e .h
  | .ld_e_l => fam_ldRegReg .e .l
  | .ld_e_atHL => fam_ldRegAtHL .e
  | .ld_e_a => fam_ldRegReg .e .a
  | .ld_h_b => fam_ldRegReg .h .b
  | .ld_h_c => fam_ldRegReg .h .c
  | .ld_h_d => fam_ldRegReg .h .d
  | .ld_h_e => fam_ldRegReg .h .e
  | .ld_h_h => fam_ldRegReg .h .h
  | .ld_h_l => fam_ldRegReg .h .l
  | .ld_h_atHL => fam_ldRegAtHL .h
  | .ld_h_a => fam_ldRegReg .h .a
  | .ld_l_b => fam_ldRegReg .l .b
  | .ld_l_c => fam_ldRegReg .l .c
  | .ld_l_d => fam_ldRegReg .l .d
  | .ld_l_e => fam_ldRegReg .l .e
  | .ld_l_h => fam_ldRegReg .l .h
  | .ld_l_l => fam_ldRegReg .l .l
  | .ld_l_atHL => fam_ldRegAtHL .l
  | .ld_l_a => fam_ldRegReg .l .a
  | .ld_atHL_b => fam_ldAtHLReg .b
  | .ld_atHL_c => fam_ldAtHLReg .c
  | .ld_atHL_d => fam_ldAtHLReg .d
  | .ld_atHL_e => fam_ldAtHLReg .e
  | .ld_atHL_h => fam_ldAtHLReg .h
  | .ld_atHL_l => fam_ldAtHLReg .l
  | .halt => fam_halt
  | .ld_atHL_a => fam_ldAtHLReg .a
  | .ld_a_b => fam_ldRegReg .a .b
  | .ld_a_c => fam_ldRegReg .a .c
  | .ld_a_d => fam_ldRegReg .a .d
  | .ld_a_e => fam_ldRegReg .a .e
  | .ld_a_h => fam_ldRegReg .a .h
  | .ld_a_l => fam_ldRegReg .a .l
  | .ld_a_atHL => fam_ldRegAtHL .a
  | .ld_a_a => fam_ldRegReg .a .a
  | .add_a_b => fam_aluLoc .add (.reg .b)
  | .add_a_c => fam_aluLoc .add (.reg .c)
  | .add_a_d => fam_aluLoc .add (.reg .d)
  | .add_a_e => fam_aluLoc .add (.reg .e)
  | .add_a_h => fam_aluLoc .add (.reg .h)
  | .add_a_l => fam_aluLoc .add (.reg .l)
  | .add_a_atHL => fam_aluLoc .add .atHL
  | .add_a_a => fam_aluLoc .add (.reg .a)
  | .adc_a_b => fam_aluLoc .adc (.reg .b)
  | .adc_a_c => fam_aluLoc .adc (.reg .c)
  | .adc_a_d => fam_aluLoc .adc (.reg .d)
  | .adc_a_e => fam_aluLoc .adc (.reg .e)
  | .adc_a_h => fam_aluLoc .adc (.reg .h)
  | .adc_a_l => fam_aluLoc .adc (.reg .l)
  | .adc_a_atHL => fam_aluLoc .adc .atHL
  | .adc_a_a => fam_aluLoc .adc (.reg .a)
  | .sub_b => fam_aluLoc .sub (.reg .b)
  | .sub_c => fam_aluLoc .sub (.reg .c)
  | .sub_d => fam_aluLoc .sub (.reg .d)
  | .sub_e => fam_aluLoc .sub (.reg .e)
  | .sub_h => fam_aluLoc .sub (.reg .h)
  | .sub_l => fam_aluLoc .sub (.reg .l)
  | .sub_atHL => fam_aluLoc .sub .atHL
  | .sub_a => fam_aluLoc .sub (.reg .a)
  | .sbc_a_b => fam_aluLoc .sbc (.reg .b)
  | .sbc_a_c => fam_aluLoc .sbc (.reg .c)
  | .sbc_a_d => fam_aluLoc .sbc (.reg .d)
  | .sbc_a_e => fam_aluLoc .sbc (.reg .e)
  | .sbc_a_h => fam_aluLoc .sbc (.reg .h)
  | .sbc_a_l => fam_aluLoc .sbc (.reg .l)
  | .sbc_a_atHL => fam_aluLoc .sbc .atHL
  | .sbc_a_a => fam_aluLoc .sbc (.reg .a)
  | .and_b => fam_aluLoc .and (.reg .b)
  | .and_c => fam_aluLoc .and (.reg .c)
  | .and_d => fam_aluLoc .and (.reg .d)
  | .and_e => fam_aluLoc .and (.reg .e)
  | .and_h => fam_aluLoc .and (.reg .h)
  | .and_l => fam_aluLoc .and (.reg .l)
  | .and_atHL => fam_aluLoc .and .atHL
  | .and_a => fam_aluLoc .and (.reg .a)
  | .xor_b => fam_aluLoc .xor (.reg .b)
  | .xor_c => fam_aluLoc .xor (.reg .c)
  | .xor_d => fam_aluLoc .xor (.reg .d)
  | .xor_e => fam_aluLoc .xor (.reg .e)
  | .xor_h => fam_aluLoc .xor (.reg .h)
  | .xor_l => fam_aluLoc .xor (.reg .l)
  | .xor_atHL => fam_aluLoc .xor .atHL
  | .xor_a => fam_aluLoc .xor (.reg .a)
  | .or_b => fam_aluLoc .or (.reg .b)
  | .or_c => fam_aluLoc .or (.reg .c)
  | .or_d => fam_aluLoc .or (.reg .d)
  | .or_e => fam_aluLoc .or (.reg .e)
  | .or_h => fam_aluLoc .or (.reg .h)
  | .or_l => fam_aluLoc .or (.reg .l)
  | .or_atHL => fam_aluLoc .or .atHL
  | .or_a => fam_aluLoc .or (.reg .a)
  | .cp_b => fam_aluLoc .cp (.reg .b)
  | .cp_c => fam_aluLoc .cp (.reg .c)
  | .cp_d => fam_aluLoc .cp (.reg .d)
  | .cp_e => fam_aluLoc .cp (.reg .e)
  | .cp_h => fam_aluLoc .cp (.reg .h)
  | .cp_l => fam_aluLoc .cp (.reg .l)
  | .cp_atHL => fam_aluLoc .cp .atHL
  | .cp_a => fam_aluLoc .cp (.reg .a)
  | .ret_nz => fam_retCond .nz
  | .pop_bc => fam_popPair .bc
  | .jp_nz_nn nn => fam_jpCond .nz nn
  | .jp_nn nn => fam_jp_nn nn
  | .call_nz_nn nn => fam_callCond .nz nn
  | .push_bc => fam_pushPair .bc
  | .add_a_n n => fam_aluImm .add n
  | .rst_00h => fam_rst 0
  | .ret_z => fam_retCond .z
  | .ret => fam_ret
  | .jp_z_nn nn => fam_jpCond .z nn
  | .call_z_nn nn => fam_callCond .z nn
  | .call_nn nn => fam_call_nn nn
  | .adc_a_n n => fam_aluImm .adc n
  | .rst_08h => fam_rst 1
  | .ret_nc => fam_retCond .nc
  | .pop_de => fam_popPair .de
  | .jp_nc_nn nn => fam_jpCond .nc nn
  | .illegal_d3 => fam_illegal .d3
  | .call_nc_nn nn => fam_callCond .nc nn
  | .push_de => fam_pushPair .de
  | .sub_n n => fam_aluImm .sub n
  | .rst_10h => fam_rst 2
  | .ret_c => fam_retCond .c
  | .reti => fam_reti
  | .jp_c_nn nn => fam_jpCond .c nn
  | .illegal_db => fam_illegal .db
  | .call_c_nn nn => fam_callCond .c nn
  | .illegal_dd => fam_illegal .dd
  | .sbc_a_n n => fam_aluImm .sbc n
  | .rst_18h => fam_rst 3
  | .ldh_atN_a n => fam_ldh_atN_a n
  | .pop_hl => fam_popPair .hl
  | .ld_atC_a => fam_ld_atC_a
  | .illegal_e3 => fam_illegal .e3
  | .illegal_e4 => fam_illegal .e4
  | .push_hl => fam_pushPair .hl
  | .and_n n => fam_aluImm .and n
  | .rst_20h => fam_rst 4
  | .add_sp_e e => fam_add_sp_e e
  | .jp_hl => fam_jp_hl
  | .ld_atNN_a nn => fam_ld_atNN_a nn
  | .illegal_eb => fam_illegal .eb
  | .illegal_ec => fam_illegal .ec
  | .illegal_ed => fam_illegal .ed
  | .xor_n n => fam_aluImm .xor n
  | .rst_28h => fam_rst 5
  | .ldh_a_atN n => fam_ldh_a_atN n
  | .pop_af => fam_popPair .af
  | .ld_a_atC => fam_ld_a_atC
  | .di => fam_di
  | .illegal_f4 => fam_illegal .f4
  | .push_af => fam_pushPair .af
  | .or_n n => fam_aluImm .or n
  | .rst_30h => fam_rst 6
  | .ld_hl_sp_e e => fam_ld_hl_sp_e e
  | .ld_sp_hl => fam_ld_sp_hl
  | .ld_a_atNN nn => fam_ld_a_atNN nn
  | .ei => fam_ei
  | .illegal_fc => fam_illegal .fc
  | .illegal_fd => fam_illegal .fd
  | .cp_n n => fam_aluImm .cp n
  | .rst_38h => fam_rst 7
  | .rlc_b => fam_rotLoc .rlc (.reg .b)
  | .rlc_c => fam_rotLoc .rlc (.reg .c)
  | .rlc_d => fam_rotLoc .rlc (.reg .d)
  | .rlc_e => fam_rotLoc .rlc (.reg .e)
  | .rlc_h => fam_rotLoc .rlc (.reg .h)
  | .rlc_l => fam_rotLoc .rlc (.reg .l)
  | .rlc_atHL => fam_rotLoc .rlc .atHL
  | .rlc_a => fam_rotLoc .rlc (.reg .a)
  | .rrc_b => fam_rotLoc .rrc (.reg .b)
  | .rrc_c => fam_rotLoc .rrc (.reg .c)
  | .rrc_d => fam_rotLoc .rrc (.reg .d)
  | .rrc_e => fam_rotLoc .rrc (.reg .e)
  | .rrc_h => fam_rotLoc .rrc (.reg .h)
  | .rrc_l => fam_rotLoc .rrc (.reg .l)
  | .rrc_atHL => fam_rotLoc .rrc .atHL
  | .rrc_a => fam_rotLoc .rrc (.reg .a)
  | .rl_b => fam_rotLoc .rl (.reg .b)
  | .rl_c => fam_rotLoc .rl (.reg .c)
  | .rl_d => fam_rotLoc .rl (.reg .d)
  | .rl_e => fam_rotLoc .rl (.reg .e)
  | .rl_h => fam_rotLoc .rl (.reg .h)
  | .rl_l => fam_rotLoc .rl (.reg .l)
  | .rl_atHL => fam_rotLoc .rl .atHL
  | .rl_a => fam_rotLoc .rl (.reg .a)
  | .rr_b => fam_rotLoc .rr (.reg .b)
  | .rr_c => fam_rotLoc .rr (.reg .c)
  | .rr_d => fam_rotLoc .rr (.reg .d)
  | .rr_e => fam_rotLoc .rr (.reg .e)
  | .rr_h => fam_rotLoc .rr (.reg .h)
  | .rr_l => fam_rotLoc .rr (.reg .l)
  | .rr_atHL => fam_rotLoc .rr .atHL
  | .rr_a => fam_rotLoc .rr (.reg .a)
  | .sla_b => fam_rotLoc .sla (.reg .b)
  | .sla_c => fam_rotLoc .sla (.reg .c)
  | .sla_d => fam_rotLoc .sla (.reg .d)
  | .sla_e => fam_rotLoc .sla (.reg .e)
  | .sla_h => fam_rotLoc .sla (.reg .h)
  | .sla_l => fam_rotLoc .sla (.reg .l)
  | .sla_atHL => fam_rotLoc .sla .atHL
  | .sla_a => fam_rotLoc .sla (.reg .a)
  | .sra_b => fam_rotLoc .sra (.reg .b)
  | .sra_c => fam_rotLoc .sra (.reg .c)
  | .sra_d => fam_rotLoc .sra (.reg .d)
  | .sra_e => fam_rotLoc .sra (.reg .e)
  | .sra_h => fam_rotLoc .sra (.reg .h)
  | .sra_l => fam_rotLoc .sra (.reg .l)
  | .sra_atHL => fam_rotLoc .sra .atHL
  | .sra_a => fam_rotLoc .sra (.reg .a)
  | .swap_b => fam_rotLoc .swap (.reg .b)
  | .swap_c => fam_rotLoc .swap (.reg .c)
  | .swap_d => fam_rotLoc .swap (.reg .d)
  | .swap_e => fam_rotLoc .swap (.reg .e)
  | .swap_h => fam_rotLoc .swap (.reg .h)
  | .swap_l => fam_rotLoc .swap (.reg .l)
  | .swap_atHL => fam_rotLoc .swap .atHL
  | .swap_a => fam_rotLoc .swap (.reg .a)
  | .srl_b => fam_rotLoc .srl (.reg .b)
  | .srl_c => fam_rotLoc .srl (.reg .c)
  | .srl_d => fam_rotLoc .srl (.reg .d)
  | .srl_e => fam_rotLoc .srl (.reg .e)
  | .srl_h => fam_rotLoc .srl (.reg .h)
  | .srl_l => fam_rotLoc .srl (.reg .l)
  | .srl_atHL => fam_rotLoc .srl .atHL
  | .srl_a => fam_rotLoc .srl (.reg .a)
  | .bit_0_b => fam_bitLoc 0 (.reg .b)
  | .bit_0_c => fam_bitLoc 0 (.reg .c)
  | .bit_0_d => fam_bitLoc 0 (.reg .d)
  | .bit_0_e => fam_bitLoc 0 (.reg .e)
  | .bit_0_h => fam_bitLoc 0 (.reg .h)
  | .bit_0_l => fam_bitLoc 0 (.reg .l)
  | .bit_0_atHL => fam_bitLoc 0 .atHL
  | .bit_0_a => fam_bitLoc 0 (.reg .a)
  | .bit_1_b => fam_bitLoc 1 (.reg .b)
  | .bit_1_c => fam_bitLoc 1 (.reg .c)
  | .bit_1_d => fam_bitLoc 1 (.reg .d)
  | .bit_1_e => fam_bitLoc 1 (.reg .e)
  | .bit_1_h => fam_bitLoc 1 (.reg .h)
  | .bit_1_l => fam_bitLoc 1 (.reg .l)
  | .bit_1_atHL => fam_bitLoc 1 .atHL
  | .bit_1_a => fam_bitLoc 1 (.reg .a)
  | .bit_2_b => fam_bitLoc 2 (.reg .b)
  | .bit_2_c => fam_bitLoc 2 (.reg .c)
  | .bit_2_d => fam_bitLoc 2 (.reg .d)
  | .bit_2_e => fam_bitLoc 2 (.reg .e)
  | .bit_2_h => fam_bitLoc 2 (.reg .h)
  | .bit_2_l => fam_bitLoc 2 (.reg .l)
  | .bit_2_atHL => fam_bitLoc 2 .atHL
  | .bit_2_a => fam_bitLoc 2 (.reg .a)
  | .bit_3_b => fam_bitLoc 3 (.reg .b)
  | .bit_3_c => fam_bitLoc 3 (.reg .c)
  | .bit_3_d => fam_bitLoc 3 (.reg .d)
  | .bit_3_e => fam_bitLoc 3 (.reg .e)
  | .bit_3_h => fam_bitLoc 3 (.reg .h)
  | .bit_3_l => fam_bitLoc 3 (.reg .l)
  | .bit_3_atHL => fam_bitLoc 3 .atHL
  | .bit_3_a => fam_bitLoc 3 (.reg .a)
  | .bit_4_b => fam_bitLoc 4 (.reg .b)
  | .bit_4_c => fam_bitLoc 4 (.reg .c)
  | .bit_4_d => fam_bitLoc 4 (.reg .d)
  | .bit_4_e => fam_bitLoc 4 (.reg .e)
  | .bit_4_h => fam_bitLoc 4 (.reg .h)
  | .bit_4_l => fam_bitLoc 4 (.reg .l)
  | .bit_4_atHL => fam_bitLoc 4 .atHL
  | .bit_4_a => fam_bitLoc 4 (.reg .a)
  | .bit_5_b => fam_bitLoc 5 (.reg .b)
  | .bit_5_c => fam_bitLoc 5 (.reg .c)
  | .bit_5_d => fam_bitLoc 5 (.reg .d)
  | .bit_5_e => fam_bitLoc 5 (.reg .e)
  | .bit_5_h => fam_bitLoc 5 (.reg .h)
  | .bit_5_l => fam_bitLoc 5 (.reg .l)
  | .bit_5_atHL => fam_bitLoc 5 .atHL
  | .bit_5_a => fam_bitLoc 5 (.reg .a)
  | .bit_6_b => fam_bitLoc 6 (.reg .b)
  | .bit_6_c => fam_bitLoc 6 (.reg .c)
  | .bit_6_d => fam_bitLoc 6 (.reg .d)
  | .bit_6_e => fam_bitLoc 6 (.reg .e)
  | .bit_6_h => fam_bitLoc 6 (.reg .h)
  | .bit_6_l => fam_bitLoc 6 (.reg .l)
  | .bit_6_atHL => fam_bitLoc 6 .atHL
  | .bit_6_a => fam_bitLoc 6 (.reg .a)
  | .bit_7_b => fam_bitLoc 7 (.reg .b)
  | .bit_7_c => fam_bitLoc 7 (.reg .c)
  | .bit_7_d => fam_bitLoc 7 (.reg .d)
  | .bit_7_e => fam_bitLoc 7 (.reg .e)
  | .bit_7_h => fam_bitLoc 7 (.reg .h)
  | .bit_7_l => fam_bitLoc 7 (.reg .l)
  | .bit_7_atHL => fam_bitLoc 7 .atHL
  | .bit_7_a => fam_bitLoc 7 (.reg .a)
  | .res_0_b => fam_resLoc 0 (.reg .b)
  | .res_0_c => fam_resLoc 0 (.reg .c)
  | .res_0_d => fam_resLoc 0 (.reg .d)
  | .res_0_e => fam_resLoc 0 (.reg .e)
  | .res_0_h => fam_resLoc 0 (.reg .h)
  | .res_0_l => fam_resLoc 0 (.reg .l)
  | .res_0_atHL => fam_resLoc 0 .atHL
  | .res_0_a => fam_resLoc 0 (.reg .a)
  | .res_1_b => fam_resLoc 1 (.reg .b)
  | .res_1_c => fam_resLoc 1 (.reg .c)
  | .res_1_d => fam_resLoc 1 (.reg .d)
  | .res_1_e => fam_resLoc 1 (.reg .e)
  | .res_1_h => fam_resLoc 1 (.reg .h)
  | .res_1_l => fam_resLoc 1 (.reg .l)
  | .res_1_atHL => fam_resLoc 1 .atHL
  | .res_1_a => fam_resLoc 1 (.reg .a)
  | .res_2_b => fam_resLoc 2 (.reg .b)
  | .res_2_c => fam_resLoc 2 (.reg .c)
  | .res_2_d => fam_resLoc 2 (.reg .d)
  | .res_2_e => fam_resLoc 2 (.reg .e)
  | .res_2_h => fam_resLoc 2 (.reg .h)
  | .res_2_l => fam_resLoc 2 (.reg .l)
  | .res_2_atHL => fam_resLoc 2 .atHL
  | .res_2_a => fam_resLoc 2 (.reg .a)
  | .res_3_b => fam_resLoc 3 (.reg .b)
  | .res_3_c => fam_resLoc 3 (.reg .c)
  | .res_3_d => fam_resLoc 3 (.reg .d)
  | .res_3_e => fam_resLoc 3 (.reg .e)
  | .res_3_h => fam_resLoc 3 (.reg .h)
  | .res_3_l => fam_resLoc 3 (.reg .l)
  | .res_3_atHL => fam_resLoc 3 .atHL
  | .res_3_a => fam_resLoc 3 (.reg .a)
  | .res_4_b => fam_resLoc 4 (.reg .b)
  | .res_4_c => fam_resLoc 4 (.reg .c)
  | .res_4_d => fam_resLoc 4 (.reg .d)
  | .res_4_e => fam_resLoc 4 (.reg .e)
  | .res_4_h => fam_resLoc 4 (.reg .h)
  | .res_4_l => fam_resLoc 4 (.reg .l)
  | .res_4_atHL => fam_resLoc 4 .atHL
  | .res_4_a => fam_resLoc 4 (.reg .a)
  | .res_5_b => fam_resLoc 5 (.reg .b)
  | .res_5_c => fam_resLoc 5 (.reg .c)
  | .res_5_d => fam_resLoc 5 (.reg .d)
  | .res_5_e => fam_resLoc 5 (.reg .e)
  | .res_5_h => fam_resLoc 5 (.reg .h)
  | .res_5_l => fam_resLoc 5 (.reg .l)
  | .res_5_atHL => fam_resLoc 5 .atHL
  | .res_5_a => fam_resLoc 5 (.reg .a)
  | .res_6_b => fam_resLoc 6 (.reg .b)
  | .res_6_c => fam_resLoc 6 (.reg .c)
  | .res_6_d => fam_resLoc 6 (.reg .d)
  | .res_6_e => fam_resLoc 6 (.reg .e)
  | .res_6_h => fam_resLoc 6 (.reg .h)
  | .res_6_l => fam_resLoc 6 (.reg .l)
  | .res_6_atHL => fam_resLoc 6 .atHL
  | .res_6_a => fam_resLoc 6 (.reg .a)
  | .res_7_b => fam_resLoc 7 (.reg .b)
  | .res_7_c => fam_resLoc 7 (.reg .c)
  | .res_7_d => fam_resLoc 7 (.reg .d)
  | .res_7_e => fam_resLoc 7 (.reg .e)
  | .res_7_h => fam_resLoc 7 (.reg .h)
  | .res_7_l => fam_resLoc 7 (.reg .l)
  | .res_7_atHL => fam_resLoc 7 .atHL
  | .res_7_a => fam_resLoc 7 (.reg .a)
  | .set_0_b => fam_setLoc 0 (.reg .b)
  | .set_0_c => fam_setLoc 0 (.reg .c)
  | .set_0_d => fam_setLoc 0 (.reg .d)
  | .set_0_e => fam_setLoc 0 (.reg .e)
  | .set_0_h => fam_setLoc 0 (.reg .h)
  | .set_0_l => fam_setLoc 0 (.reg .l)
  | .set_0_atHL => fam_setLoc 0 .atHL
  | .set_0_a => fam_setLoc 0 (.reg .a)
  | .set_1_b => fam_setLoc 1 (.reg .b)
  | .set_1_c => fam_setLoc 1 (.reg .c)
  | .set_1_d => fam_setLoc 1 (.reg .d)
  | .set_1_e => fam_setLoc 1 (.reg .e)
  | .set_1_h => fam_setLoc 1 (.reg .h)
  | .set_1_l => fam_setLoc 1 (.reg .l)
  | .set_1_atHL => fam_setLoc 1 .atHL
  | .set_1_a => fam_setLoc 1 (.reg .a)
  | .set_2_b => fam_setLoc 2 (.reg .b)
  | .set_2_c => fam_setLoc 2 (.reg .c)
  | .set_2_d => fam_setLoc 2 (.reg .d)
  | .set_2_e => fam_setLoc 2 (.reg .e)
  | .set_2_h => fam_setLoc 2 (.reg .h)
  | .set_2_l => fam_setLoc 2 (.reg .l)
  | .set_2_atHL => fam_setLoc 2 .atHL
  | .set_2_a => fam_setLoc 2 (.reg .a)
  | .set_3_b => fam_setLoc 3 (.reg .b)
  | .set_3_c => fam_setLoc 3 (.reg .c)
  | .set_3_d => fam_setLoc 3 (.reg .d)
  | .set_3_e => fam_setLoc 3 (.reg .e)
  | .set_3_h => fam_setLoc 3 (.reg .h)
  | .set_3_l => fam_setLoc 3 (.reg .l)
  | .set_3_atHL => fam_setLoc 3 .atHL
  | .set_3_a => fam_setLoc 3 (.reg .a)
  | .set_4_b => fam_setLoc 4 (.reg .b)
  | .set_4_c => fam_setLoc 4 (.reg .c)
  | .set_4_d => fam_setLoc 4 (.reg .d)
  | .set_4_e => fam_setLoc 4 (.reg .e)
  | .set_4_h => fam_setLoc 4 (.reg .h)
  | .set_4_l => fam_setLoc 4 (.reg .l)
  | .set_4_atHL => fam_setLoc 4 .atHL
  | .set_4_a => fam_setLoc 4 (.reg .a)
  | .set_5_b => fam_setLoc 5 (.reg .b)
  | .set_5_c => fam_setLoc 5 (.reg .c)
  | .set_5_d => fam_setLoc 5 (.reg .d)
  | .set_5_e => fam_setLoc 5 (.reg .e)
  | .set_5_h => fam_setLoc 5 (.reg .h)
  | .set_5_l => fam_setLoc 5 (.reg .l)
  | .set_5_atHL => fam_setLoc 5 .atHL
  | .set_5_a => fam_setLoc 5 (.reg .a)
  | .set_6_b => fam_setLoc 6 (.reg .b)
  | .set_6_c => fam_setLoc 6 (.reg .c)
  | .set_6_d => fam_setLoc 6 (.reg .d)
  | .set_6_e => fam_setLoc 6 (.reg .e)
  | .set_6_h => fam_setLoc 6 (.reg .h)
  | .set_6_l => fam_setLoc 6 (.reg .l)
  | .set_6_atHL => fam_setLoc 6 .atHL
  | .set_6_a => fam_setLoc 6 (.reg .a)
  | .set_7_b => fam_setLoc 7 (.reg .b)
  | .set_7_c => fam_setLoc 7 (.reg .c)
  | .set_7_d => fam_setLoc 7 (.reg .d)
  | .set_7_e => fam_setLoc 7 (.reg .e)
  | .set_7_h => fam_setLoc 7 (.reg .h)
  | .set_7_l => fam_setLoc 7 (.reg .l)
  | .set_7_atHL => fam_setLoc 7 .atHL
  | .set_7_a => fam_setLoc 7 (.reg .a)

theorem exec_ldRegReg (dst src : Reg8) (s : State) :
    exec (Instr.ldRegReg dst src) s = ((s.advance 1).move (.reg dst) (.reg src)).retire (Instr.ldRegReg dst src).key true 4 := by
  cases dst <;> cases src <;> rfl

theorem exec_ldLocImm (x : Loc) (n : Byte) (s : State) :
    exec (Instr.ldLocImm x n) s = ((s.advance 2).writeLoc x n).retire (Instr.ldLocImm x n).key true (if x = .atHL then 12 else 8) := by
  rcases x with r | _ <;> first | rfl | (cases r <;> rfl)

theorem exec_ldRegAtHL (dst : Reg8) (s : State) :
    exec (Instr.ldRegAtHL dst) s = ((s.advance 1).move (.reg dst) .atHL).retire (Instr.ldRegAtHL dst).key true 8 := by
  cases dst <;> rfl

theorem exec_ldAtHLReg (src : Reg8) (s : State) :
    exec (Instr.ldAtHLReg src) s = ((s.advance 1).move .atHL (.reg src)).retire (Instr.ldAtHLReg src).key true 8 := by
  cases src <;> rfl

theorem exec_aluLoc (op : AluOp) (x : Loc) (s : State) :
    exec (Instr.aluLoc op x) s = ((s.advance 1).aluLoc op x).retire (Instr.aluLoc op x).key true (if x = .atHL then 8 else 4) := by
  cases op <;> rcases x with r | _ <;> first | rfl | (cases r <;> rfl)

theorem exec_aluImm (op : AluOp) (n : Byte) (s : State) :
    exec (Instr.aluImm op n) s = ((s.advance 2).alu op n).retire (Instr.aluImm op n).key true 8 := by
  cases op <;> rfl

theorem exec_incLoc (x : Loc) (s : State) :
    exec (Instr.incLoc x) s = ((s.advance 1).inc x).retire (Instr.incLoc x).key true (if x = .atHL then 12 else 4) := by
  rcases x with r | _ <;> first | rfl | (cases r <;> rfl)

theorem exec_decLoc (x : Loc) (s : State) :
    exec (Instr.decLoc x) s = ((s.advance 1).dec x).retire (Instr.decLoc x).key true (if x = .atHL then 12 else 4) := by
  rcases x with r | _ <;> first | rfl | (cases r <;> rfl)

theorem exec_ldPairImm (rr : Pair) (nn : Word) (s : State) :
    exec (Instr.ldPairImm rr nn) s = ((s.advance 3).setPair rr nn).retire (Instr.ldPairImm rr nn).key true 12 := by
  cases rr <;> rfl

theorem exec_addHLPair (rr : Pair) (s : State) :
    exec (Instr.addHLPair rr) s = ((s.advance 1).addHL (s.getPair rr)).retire (Instr.addHLPair rr).key true 8 := by
  cases rr <;> rfl

theorem exec_incPair (rr : Pair) (s : State) :
    exec (Instr.incPair rr) s = ((s.advance 1).setPair rr (s.getPair rr + 1)).retire (Instr.incPair rr).key true 8 := by
  cases rr <;> rfl

theorem exec_decPair (rr : Pair) (s : State) :
    exec (Instr.decPair rr) s = ((s.advance 1).setPair rr (s.getPair rr - 1)).retire (Instr.decPair rr).key true 8 := by
  cases rr <;> rfl

theorem exec_pushPair (rr : StackPair) (s : State) :
    exec (Instr.pushPair rr) s = ((s.advance 1).push16 (s.getStackPair rr)).retire (Instr.pushPair rr).key true 16 := by
  cases rr <;> rfl

theorem exec_popPair (rr : StackPair) (s : State) :
    exec (Instr.popPair rr) s = ((s.advance 1).pop rr).retire (Instr.popPair rr).key true 12 := by
  cases rr <;> rfl

theorem exec_jpCond (cc : Cond) (nn : Word) (s : State) :
    exec (Instr.jpCond cc nn) s = ((s.advance 3).whenCond cc fun t => t.jump nn).retireCond (Instr.jpCond cc nn).key (s.cond cc) 16 12 := by
  cases cc <;> rfl

theorem exec_jrCond (cc : Cond) (e : Byte) (s : State) :
    exec (Instr.jrCond cc e) s = ((s.advance 2).whenCond cc fun t => t.jumpRel e).retireCond (Instr.jrCond cc e).key (s.cond cc) 12 8 := by
  cases cc <;> rfl

theorem exec_callCond (cc : Cond) (nn : Word) (s : State) :
    exec (Instr.callCond cc nn) s = ((s.advance 3).whenCond cc fun t => t.call nn).retireCond (Instr.callCond cc nn).key (s.cond cc) 24 12 := by
  cases cc <;> rfl

theorem exec_retCond (cc : Cond) (s : State) :
    exec (Instr.retCond cc) s = ((s.advance 1).whenCond cc fun t => t.ret).retireCond (Instr.retCond cc).key (s.cond cc) 20 8 := by
  cases cc <;> rfl

theorem exec_rst (y : Fin 8) (s : State) :
    exec (Instr.rst y) s = ((s.advance 1).call (BitVec.ofNat 16 (8 * y.val))).retire (Instr.rst y).key true 16 := by
  fin_cases y <;> rfl

theorem exec_rotLoc (op : RotOp) (x : Loc) (s : State) :
    exec (Instr.rotLoc op x) s = ((s.advance 2).rot op x).retire (Instr.rotLoc op x).key true (if x = .atHL then 16 else 8) := by
  cases op <;> rcases x with r | _ <;> first | rfl | (cases r <;> rfl)

theorem exec_bitLoc (y : Fin 8) (x : Loc) (s : State) :
    exec (Instr.bitLoc y x) s = ((s.advance 2).bitTest y.val x).retire (Instr.bitLoc y x).key true (if x = .atHL then 12 else 8) := by
  fin_cases y <;> rcases x with r | _ <;> first | rfl | (cases r <;> rfl)

theorem exec_resLoc (y : Fin 8) (x : Loc) (s : State) :
    exec (Instr.resLoc y x) s = ((s.advance 2).bitReset y.val x).retire (Instr.resLoc y x).key true (if x = .atHL then 16 else 8) := by
  fin_cases y <;> rcases x with r | _ <;> first | rfl | (cases r <;> rfl)

theorem exec_setLoc (y : Fin 8) (x : Loc) (s : State) :
    exec (Instr.setLoc y x) s = ((s.advance 2).bitSet y.val x).retire (Instr.setLoc y x).key true (if x = .atHL then 16 else 8) := by
  fin_cases y <;> rcases x with r | _ <;> first | rfl | (cases r <;> rfl)

/-- An illegal opcode records its own byte and the address it was fetched from. -/
theorem exec_illegal (x : IllegalByte) (s : State) :
    exec (Instr.illegal x) s = .next (((s.advance 1).raiseIllegal (BitVec.ofNat 8 (Instr.illegal x).key) s.pc).report 4) := by
  cases x <;> rfl

end Sys2Proof.Machine
end

