-- ==== Sys2Proof/Laws/Keys.lean ====
section
/-! SUPPORT. The row number of each instruction that carries an operand (a row number with a free operand inside does not evaluate by
itself). -/

namespace Sys2Proof

@[simp] theorem Instr.key_ld_bc_nn (nn : Word) : (Instr.ld_bc_nn nn).key = 0x01 := rfl
@[simp] theorem Instr.key_ld_b_n (n : Byte) : (Instr.ld_b_n n).key = 0x06 := rfl
@[simp] theorem Instr.key_ld_atNN_sp (nn : Word) : (Instr.ld_atNN_sp nn).key = 0x08 := rfl
@[simp] theorem Instr.key_ld_c_n (n : Byte) : (Instr.ld_c_n n).key = 0x0E := rfl
@[simp] theorem Instr.key_stop (x : Byte) : (Instr.stop x).key = 0x10 := rfl
@[simp] theorem Instr.key_ld_de_nn (nn : Word) : (Instr.ld_de_nn nn).key = 0x11 := rfl
@[simp] theorem Instr.key_ld_d_n (n : Byte) : (Instr.ld_d_n n).key = 0x16 := rfl
@[simp] theorem Instr.key_jr_e (e : Byte) : (Instr.jr_e e).key = 0x18 := rfl
@[simp] theorem Instr.key_ld_e_n (n : Byte) : (Instr.ld_e_n n).key = 0x1E := rfl
@[simp] theorem Instr.key_jr_nz_e (e : Byte) : (Instr.jr_nz_e e).key = 0x20 := rfl
@[simp] theorem Instr.key_ld_hl_nn (nn : Word) : (Instr.ld_hl_nn nn).key = 0x21 := rfl
@[simp] theorem Instr.key_ld_h_n (n : Byte) : (Instr.ld_h_n n).key = 0x26 := rfl
@[simp] theorem Instr.key_jr_z_e (e : Byte) : (Instr.jr_z_e e).key = 0x28 := rfl
@[simp] theorem Instr.key_ld_l_n (n : Byte) : (Instr.ld_l_n n).key = 0x2E := rfl
@[simp] theorem Instr.key_jr_nc_e (e : Byte) : (Instr.jr_nc_e e).key = 0x30 := rfl
@[simp] theorem Instr.key_ld_sp_nn (nn : Word) : (Instr.ld_sp_nn nn).key = 0x31 := rfl
@[simp] theorem Instr.key_ld_atHL_n (n : Byte) : (Instr.ld_atHL_n n).key = 0x36 := rfl
@[simp] theorem Instr.key_jr_c_e (e : Byte) : (Instr.jr_c_e e).key = 0x38 := rfl
@[simp] theorem Instr.key_ld_a_n (n : Byte) : (Instr.ld_a_n n).key = 0x3E := rfl
@[simp] theorem Instr.key_jp_nz_nn (nn : Word) : (Instr.jp_nz_nn nn).key = 0xC2 := rfl
@[simp] theorem Instr.key_jp_nn (nn : Word) : (Instr.jp_nn nn).key = 0xC3 := rfl
@[simp] theorem Instr.key_call_nz_nn (nn : Word) : (Instr.call_nz_nn nn).key = 0xC4 := rfl
@[simp] theorem Instr.key_add_a_n (n : Byte) : (Instr.add_a_n n).key = 0xC6 := rfl
@[simp] theorem Instr.key_jp_z_nn (nn : Word) : (Instr.jp_z_nn nn).key = 0xCA := rfl
@[simp] theorem Instr.key_call_z_nn (nn : Word) : (Instr.call_z_nn nn).key = 0xCC := rfl
@[simp] theorem Instr.key_call_nn (nn : Word) : (Instr.call_nn nn).key = 0xCD := rfl
@[simp] theorem Instr.key_adc_a_n (n : Byte) : (Instr.adc_a_n n).key = 0xCE := rfl
@[simp] theorem Instr.key_jp_nc_nn (nn : Word) : (Instr.jp_nc_nn nn).key = 0xD2 := rfl
@[simp] theorem Instr.key_call_nc_nn (nn : Word) : (Instr.call_nc_nn nn).key = 0xD4 := rfl
@[simp] theorem Instr.key_sub_n (n : Byte) : (Instr.sub_n n).key = 0xD6 := rfl
@[simp] theorem Instr.key_jp_c_nn (nn : Word) : (Instr.jp_c_nn nn).key = 0xDA := rfl
@[simp] theorem Instr.key_call_c_nn (nn : Word) : (Instr.call_c_nn nn).key = 0xDC := rfl
@[simp] theorem Instr.key_sbc_a_n (n : Byte) : (Instr.sbc_a_n n).key = 0xDE := rfl
@[simp] theorem Instr.key_ldh_atN_a (n : Byte) : (Instr.ldh_atN_a n).key = 0xE0 := rfl
@[simp] theorem Instr.key_and_n (n : Byte) : (Instr.and_n n).key = 0xE6 := rfl
@[simp] theorem Instr.key_add_sp_e (e : Byte) : (Instr.add_sp_e e).key = 0xE8 := rfl
@[simp] theorem Instr.key_ld_atNN_a (nn : Word) : (Instr.ld_atNN_a nn).key = 0xEA := rfl
@[simp] theorem Instr.key_xor_n (n : Byte) : (Instr.xor_n n).key = 0xEE := rfl
@[simp] theorem Instr.key_ldh_a_atN (n : Byte) : (Instr.ldh_a_atN n).key = 0xF0 := rfl
@[simp] theorem Instr.key_or_n (n : Byte) : (Instr.or_n n).key = 0xF6 := rfl
@[simp] theorem Instr.key_ld_hl_sp_e (e : Byte) : (Instr.ld_hl_sp_e e).key = 0xF8 := rfl
@[simp] theorem Instr.key_ld_a_atNN (nn : Word) : (Instr.ld_a_atNN nn).key = 0xFA := rfl
@[simp] theorem Instr.key_cp_n (n : Byte) : (Instr.cp_n n).key = 0xFE := rfl

end Sys2Proof
end

