-- ==== Sys2Proof/Laws/Memory.lean ====
section
/-! SUPPORT. FLAT_RAM: a read gives the last write to its address, no write touches another address, and every write keeps the canonical
form. The first two hold of every list of cells, canonical or not. Then what every bus keeps. -/

namespace Sys2Proof.Machine

theorem Memory.read_erase (m : List Host.Cell) (a b : Nat) :
    Memory.read (Memory.erase m a) b = if b = a then Memory.unlisted else Memory.read m b := by
  induction m with
  | nil => simp [Memory.erase, Memory.read]
  | cons cell m ih =>
    simp only [Memory.erase] at ih ⊢
    by_cases hk : cell.1 = a <;> by_cases hb : b = a <;> by_cases hc : cell.1 = b <;>
      simp_all [Memory.read]

theorem Memory.read_insert_self (m : List Host.Cell) (a : Nat) (v : Byte) (h : ∀ cell ∈ m, cell.1 ≠ a) :
    Memory.read (Memory.insert a v m) a = v := by
  induction m with
  | nil => simp [Memory.insert, Memory.read]
  | cons cell m ih =>
    simp only [Memory.insert]
    split
    · simp [Memory.read]
    · rw [Memory.read, if_neg (h cell (by simp)), ih fun q hq => h q (by simp [hq])]

theorem Memory.read_insert_other (m : List Host.Cell) (a b : Nat) (v : Byte) (h : b ≠ a) :
    Memory.read (Memory.insert a v m) b = Memory.read m b := by
  induction m with
  | nil => simp [Memory.insert, Memory.read, Ne.symm h]
  | cons cell m ih =>
    simp only [Memory.insert]
    split
    · simp [Memory.read, Ne.symm h]
    · simp [Memory.read, ih]

/-- A read after a write. -/
theorem Memory.read_write (m : List Host.Cell) (a b : Nat) (v : Byte) :
    Memory.read (Memory.write m a v) b = if b = a then v else Memory.read m b := by
  unfold Memory.write
  split
  · next hv => rw [Memory.read_erase, hv]
  · by_cases hb : b = a
    · subst hb
      rw [if_pos rfl, Memory.read_insert_self]
      intro cell hcell
      simpa [Memory.erase] using (List.mem_filter.1 hcell).2
    · rw [Memory.read_insert_other _ _ _ _ hb, Memory.read_erase, if_neg hb, if_neg hb]

theorem Memory.rising_iff_pairwise (m : List Host.Cell) : Memory.rising m = true ↔ m.Pairwise fun p q => p.1 < q.1 := by
  induction m with
  | nil => simp [Memory.rising]
  | cons p m ih =>
    cases m with
    | nil => simp [Memory.rising]
    | cons q m =>
      rw [Memory.rising, Bool.and_eq_true, ih, List.pairwise_cons, List.pairwise_cons, List.pairwise_cons]
      constructor
      · rintro ⟨hpq, hq, hm⟩
        refine ⟨fun x hx => ?_, hq, hm⟩
        rcases List.mem_cons.1 hx with rfl | hx
        · exact of_decide_eq_true hpq
        · exact lt_trans (of_decide_eq_true hpq) (hq x hx)
      · rintro ⟨hp, hq, hm⟩
        exact ⟨decide_eq_true (hp q (by simp)), hq, hm⟩

theorem Memory.mem_insert (m : List Host.Cell) (a : Nat) (v : Byte) (cell : Host.Cell) :
    cell ∈ Memory.insert a v m ↔ cell = (a, v) ∨ cell ∈ m := by
  induction m with
  | nil => simp [Memory.insert]
  | cons p m ih =>
    simp only [Memory.insert]
    split
    · simp
    · simp only [List.mem_cons, ih]
      tauto

theorem Memory.pairwise_insert (m : List Host.Cell) (a : Nat) (v : Byte) (hm : m.Pairwise fun p q => p.1 < q.1)
    (ha : ∀ cell ∈ m, cell.1 ≠ a) : (Memory.insert a v m).Pairwise fun p q => p.1 < q.1 := by
  induction m with
  | nil => simp [Memory.insert]
  | cons p m ih =>
    obtain ⟨hp, hm'⟩ := List.pairwise_cons.1 hm
    simp only [Memory.insert]
    split
    · next hlt =>
      refine List.pairwise_cons.2 ⟨fun x hx => ?_, hm⟩
      rcases List.mem_cons.1 hx with rfl | hx
      · exact hlt
      · exact lt_trans hlt (hp x hx)
    · next hge =>
      refine List.pairwise_cons.2 ⟨fun x hx => ?_, ih hm' fun q hq => ha q (by simp [hq])⟩
      rcases (Memory.mem_insert _ _ _ _).1 hx with rfl | hx
      · exact lt_of_le_of_ne (not_lt.1 hge) (ha p (by simp))
      · exact hp x hx

/-- Every write to a bus address keeps the canonical form. -/
theorem Memory.wf_write (m : List Host.Cell) (a : Nat) (v : Byte) (hm : Memory.wf m = true) (ha : a < 65536)
    (hb : blockReg? (BitVec.ofNat 16 a) = none) : Memory.wf (Memory.write m a v) = true := by
  simp only [Memory.wf, Bool.and_eq_true, Memory.rising_iff_pairwise, List.all_eq_true] at hm ⊢
  have herase : (Memory.erase m a).Pairwise fun p q => p.1 < q.1 := hm.1.filter _
  have hok : ∀ cell ∈ Memory.erase m a, Memory.cellOk cell = true := fun cell hc => hm.2 cell (List.mem_filter.1 hc).1
  unfold Memory.write
  split
  · exact ⟨herase, hok⟩
  · next hv =>
    refine ⟨Memory.pairwise_insert _ _ _ herase fun cell hc => by simpa using (List.mem_filter.1 hc).2, fun cell hc => ?_⟩
    rcases (Memory.mem_insert _ _ _ _).1 hc with rfl | hc
    · simp [Memory.cellOk, ha, hb, hv]
    · exact hok cell hc

/-- A read after a write of FLAT_RAM, as the bus answers it. -/
theorem busRead_busWrite (bus : BusState) (a b : Word) (v : Byte) (h : bus.isFlatRam = true) :
    busRead (busWrite bus a v) b = if b = a then v else busRead bus b := by
  cases bus with
  | flatRam mem => simp only [busRead, busWrite, Memory.read_write, BitVec.toNat_inj]
  | external data => cases h

/-- A store leaves BUS what it is. -/
@[simp] theorem BusState.isFlatRam_busWrite (bus : BusState) (a : Word) (v : Byte) : (busWrite bus a v).isFlatRam = bus.isFlatRam := by
  cases bus <;> rfl

theorem BusState.wf_busWrite (bus : BusState) (a : Word) (v : Byte) (h : bus.wf = true) (ha : blockReg? a = none) :
    (busWrite bus a v).wf = true := by
  cases bus with
  | flatRam mem => exact Memory.wf_write _ _ _ h a.isLt (by simpa using ha)
  | external data => rfl

end Sys2Proof.Machine
end

