-- ==== Sys2Proof/Laws/State.lean ====
section
/-! SUPPORT. What each named operation leaves unchanged: one lemma per operation and field it does not write, for `simp`; and the value of
each field an update writes outright. No later proof need unfold a record update. -/

namespace Sys2Proof.Machine

variable (s : State)

@[simp] theorem State.setReg_flags (r : Reg8) (v : Byte) : (s.setReg r v).flags = s.flags := by cases r <;> rfl
@[simp] theorem State.setReg_sp (r : Reg8) (v : Byte) : (s.setReg r v).sp = s.sp := by cases r <;> rfl
@[simp] theorem State.setReg_pc (r : Reg8) (v : Byte) : (s.setReg r v).pc = s.pc := by cases r <;> rfl
@[simp] theorem State.setReg_ime (r : Reg8) (v : Byte) : (s.setReg r v).ime = s.ime := by cases r <;> rfl
@[simp] theorem State.setReg_halted (r : Reg8) (v : Byte) : (s.setReg r v).halted = s.halted := by cases r <;> rfl
@[simp] theorem State.setReg_haltBug (r : Reg8) (v : Byte) : (s.setReg r v).haltBug = s.haltBug := by cases r <;> rfl
@[simp] theorem State.setReg_stopped (r : Reg8) (v : Byte) : (s.setReg r v).stopped = s.stopped := by cases r <;> rfl
@[simp] theorem State.setReg_locked (r : Reg8) (v : Byte) : (s.setReg r v).locked = s.locked := by cases r <;> rfl
@[simp] theorem State.setReg_fault (r : Reg8) (v : Byte) : (s.setReg r v).fault = s.fault := by cases r <;> rfl
@[simp] theorem State.setReg_ie (r : Reg8) (v : Byte) : (s.setReg r v).ie = s.ie := by cases r <;> rfl
@[simp] theorem State.setReg_iflag (r : Reg8) (v : Byte) : (s.setReg r v).iflag = s.iflag := by cases r <;> rfl
@[simp] theorem State.setReg_div (r : Reg8) (v : Byte) : (s.setReg r v).div = s.div := by cases r <;> rfl
@[simp] theorem State.setReg_divAcc (r : Reg8) (v : Byte) : (s.setReg r v).divAcc = s.divAcc := by cases r <;> rfl
@[simp] theorem State.setReg_tima (r : Reg8) (v : Byte) : (s.setReg r v).tima = s.tima := by cases r <;> rfl
@[simp] theorem State.setReg_tma (r : Reg8) (v : Byte) : (s.setReg r v).tma = s.tma := by cases r <;> rfl
@[simp] theorem State.setReg_tac (r : Reg8) (v : Byte) : (s.setReg r v).tac = s.tac := by cases r <;> rfl
@[simp] theorem State.setReg_countdown (r : Reg8) (v : Byte) : (s.setReg r v).countdown = s.countdown := by cases r <;> rfl
@[simp] theorem State.setReg_bus (r : Reg8) (v : Byte) : (s.setReg r v).bus = s.bus := by cases r <;> rfl
@[simp] theorem State.setReg_cycles (r : Reg8) (v : Byte) : (s.setReg r v).cycles = s.cycles := by cases r <;> rfl
@[simp] theorem State.setReg_params (r : Reg8) (v : Byte) : (s.setReg r v).params = s.params := by cases r <;> rfl

@[simp] theorem State.setBC_a (v : Word) : (s.setBC v).a = s.a := rfl
@[simp] theorem State.setBC_flags (v : Word) : (s.setBC v).flags = s.flags := rfl
@[simp] theorem State.setBC_d (v : Word) : (s.setBC v).d = s.d := rfl
@[simp] theorem State.setBC_e (v : Word) : (s.setBC v).e = s.e := rfl
@[simp] theorem State.setBC_h (v : Word) : (s.setBC v).h = s.h := rfl
@[simp] theorem State.setBC_l (v : Word) : (s.setBC v).l = s.l := rfl
@[simp] theorem State.setBC_sp (v : Word) : (s.setBC v).sp = s.sp := rfl
@[simp] theorem State.setBC_pc (v : Word) : (s.setBC v).pc = s.pc := rfl
@[simp] theorem State.setBC_ime (v : Word) : (s.setBC v).ime = s.ime := rfl
@[simp] theorem State.setBC_halted (v : Word) : (s.setBC v).halted = s.halted := rfl
@[simp] theorem State.setBC_haltBug (v : Word) : (s.setBC v).haltBug = s.haltBug := rfl
@[simp] theorem State.setBC_stopped (v : Word) : (s.setBC v).stopped = s.stopped := rfl
@[simp] theorem State.setBC_locked (v : Word) : (s.setBC v).locked = s.locked := rfl
@[simp] theorem State.setBC_fault (v : Word) : (s.setBC v).fault = s.fault := rfl
@[simp] theorem State.setBC_ie (v : Word) : (s.setBC v).ie = s.ie := rfl
@[simp] theorem State.setBC_iflag (v : Word) : (s.setBC v).iflag = s.iflag := rfl
@[simp] theorem State.setBC_div (v : Word) : (s.setBC v).div = s.div := rfl
@[simp] theorem State.setBC_divAcc (v : Word) : (s.setBC v).divAcc = s.divAcc := rfl
@[simp] theorem State.setBC_tima (v : Word) : (s.setBC v).tima = s.tima := rfl
@[simp] theorem State.setBC_tma (v : Word) : (s.setBC v).tma = s.tma := rfl
@[simp] theorem State.setBC_tac (v : Word) : (s.setBC v).tac = s.tac := rfl
@[simp] theorem State.setBC_countdown (v : Word) : (s.setBC v).countdown = s.countdown := rfl
@[simp] theorem State.setBC_bus (v : Word) : (s.setBC v).bus = s.bus := rfl
@[simp] theorem State.setBC_cycles (v : Word) : (s.setBC v).cycles = s.cycles := rfl
@[simp] theorem State.setBC_params (v : Word) : (s.setBC v).params = s.params := rfl

@[simp] theorem State.setDE_a (v : Word) : (s.setDE v).a = s.a := rfl
@[simp] theorem State.setDE_flags (v : Word) : (s.setDE v).flags = s.flags := rfl
@[simp] theorem State.setDE_b (v : Word) : (s.setDE v).b = s.b := rfl
@[simp] theorem State.setDE_c (v : Word) : (s.setDE v).c = s.c := rfl
@[simp] theorem State.setDE_h (v : Word) : (s.setDE v).h = s.h := rfl
@[simp] theorem State.setDE_l (v : Word) : (s.setDE v).l = s.l := rfl
@[simp] theorem State.setDE_sp (v : Word) : (s.setDE v).sp = s.sp := rfl
@[simp] theorem State.setDE_pc (v : Word) : (s.setDE v).pc = s.pc := rfl
@[simp] theorem State.setDE_ime (v : Word) : (s.setDE v).ime = s.ime := rfl
@[simp] theorem State.setDE_halted (v : Word) : (s.setDE v).halted = s.halted := rfl
@[simp] theorem State.setDE_haltBug (v : Word) : (s.setDE v).haltBug = s.haltBug := rfl
@[simp] theorem State.setDE_stopped (v : Word) : (s.setDE v).stopped = s.stopped := rfl
@[simp] theorem State.setDE_locked (v : Word) : (s.setDE v).locked = s.locked := rfl
@[simp] theorem State.setDE_fault (v : Word) : (s.setDE v).fault = s.fault := rfl
@[simp] theorem State.setDE_ie (v : Word) : (s.setDE v).ie = s.ie := rfl
@[simp] theorem State.setDE_iflag (v : Word) : (s.setDE v).iflag = s.iflag := rfl
@[simp] theorem State.setDE_div (v : Word) : (s.setDE v).div = s.div := rfl
@[simp] theorem State.setDE_divAcc (v : Word) : (s.setDE v).divAcc = s.divAcc := rfl
@[simp] theorem State.setDE_tima (v : Word) : (s.setDE v).tima = s.tima := rfl
@[simp] theorem State.setDE_tma (v : Word) : (s.setDE v).tma = s.tma := rfl
@[simp] theorem State.setDE_tac (v : Word) : (s.setDE v).tac = s.tac := rfl
@[simp] theorem State.setDE_countdown (v : Word) : (s.setDE v).countdown = s.countdown := rfl
@[simp] theorem State.setDE_bus (v : Word) : (s.setDE v).bus = s.bus := rfl
@[simp] theorem State.setDE_cycles (v : Word) : (s.setDE v).cycles = s.cycles := rfl
@[simp] theorem State.setDE_params (v : Word) : (s.setDE v).params = s.params := rfl

@[simp] theorem State.setHL_a (v : Word) : (s.setHL v).a = s.a := rfl
@[simp] theorem State.setHL_flags (v : Word) : (s.setHL v).flags = s.flags := rfl
@[simp] theorem State.setHL_b (v : Word) : (s.setHL v).b = s.b := rfl
@[simp] theorem State.setHL_c (v : Word) : (s.setHL v).c = s.c := rfl
@[simp] theorem State.setHL_d (v : Word) : (s.setHL v).d = s.d := rfl
@[simp] theorem State.setHL_e (v : Word) : (s.setHL v).e = s.e := rfl
@[simp] theorem State.setHL_sp (v : Word) : (s.setHL v).sp = s.sp := rfl
@[simp] theorem State.setHL_pc (v : Word) : (s.setHL v).pc = s.pc := rfl
@[simp] theorem State.setHL_ime (v : Word) : (s.setHL v).ime = s.ime := rfl
@[simp] theorem State.setHL_halted (v : Word) : (s.setHL v).halted = s.halted := rfl
@[simp] theorem State.setHL_haltBug (v : Word) : (s.setHL v).haltBug = s.haltBug := rfl
@[simp] theorem State.setHL_stopped (v : Word) : (s.setHL v).stopped = s.stopped := rfl
@[simp] theorem State.setHL_locked (v : Word) : (s.setHL v).locked = s.locked := rfl
@[simp] theorem State.setHL_fault (v : Word) : (s.setHL v).fault = s.fault := rfl
@[simp] theorem State.setHL_ie (v : Word) : (s.setHL v).ie = s.ie := rfl
@[simp] theorem State.setHL_iflag (v : Word) : (s.setHL v).iflag = s.iflag := rfl
@[simp] theorem State.setHL_div (v : Word) : (s.setHL v).div = s.div := rfl
@[simp] theorem State.setHL_divAcc (v : Word) : (s.setHL v).divAcc = s.divAcc := rfl
@[simp] theorem State.setHL_tima (v : Word) : (s.setHL v).tima = s.tima := rfl
@[simp] theorem State.setHL_tma (v : Word) : (s.setHL v).tma = s.tma := rfl
@[simp] theorem State.setHL_tac (v : Word) : (s.setHL v).tac = s.tac := rfl
@[simp] theorem State.setHL_countdown (v : Word) : (s.setHL v).countdown = s.countdown := rfl
@[simp] theorem State.setHL_bus (v : Word) : (s.setHL v).bus = s.bus := rfl
@[simp] theorem State.setHL_cycles (v : Word) : (s.setHL v).cycles = s.cycles := rfl
@[simp] theorem State.setHL_params (v : Word) : (s.setHL v).params = s.params := rfl

@[simp] theorem State.setAF_b (v : Word) : (s.setAF v).b = s.b := rfl
@[simp] theorem State.setAF_c (v : Word) : (s.setAF v).c = s.c := rfl
@[simp] theorem State.setAF_d (v : Word) : (s.setAF v).d = s.d := rfl
@[simp] theorem State.setAF_e (v : Word) : (s.setAF v).e = s.e := rfl
@[simp] theorem State.setAF_h (v : Word) : (s.setAF v).h = s.h := rfl
@[simp] theorem State.setAF_l (v : Word) : (s.setAF v).l = s.l := rfl
@[simp] theorem State.setAF_sp (v : Word) : (s.setAF v).sp = s.sp := rfl
@[simp] theorem State.setAF_pc (v : Word) : (s.setAF v).pc = s.pc := rfl
@[simp] theorem State.setAF_ime (v : Word) : (s.setAF v).ime = s.ime := rfl
@[simp] theorem State.setAF_halted (v : Word) : (s.setAF v).halted = s.halted := rfl
@[simp] theorem State.setAF_haltBug (v : Word) : (s.setAF v).haltBug = s.haltBug := rfl
@[simp] theorem State.setAF_stopped (v : Word) : (s.setAF v).stopped = s.stopped := rfl
@[simp] theorem State.setAF_locked (v : Word) : (s.setAF v).locked = s.locked := rfl
@[simp] theorem State.setAF_fault (v : Word) : (s.setAF v).fault = s.fault := rfl
@[simp] theorem State.setAF_ie (v : Word) : (s.setAF v).ie = s.ie := rfl
@[simp] theorem State.setAF_iflag (v : Word) : (s.setAF v).iflag = s.iflag := rfl
@[simp] theorem State.setAF_div (v : Word) : (s.setAF v).div = s.div := rfl
@[simp] theorem State.setAF_divAcc (v : Word) : (s.setAF v).divAcc = s.divAcc := rfl
@[simp] theorem State.setAF_tima (v : Word) : (s.setAF v).tima = s.tima := rfl
@[simp] theorem State.setAF_tma (v : Word) : (s.setAF v).tma = s.tma := rfl
@[simp] theorem State.setAF_tac (v : Word) : (s.setAF v).tac = s.tac := rfl
@[simp] theorem State.setAF_countdown (v : Word) : (s.setAF v).countdown = s.countdown := rfl
@[simp] theorem State.setAF_bus (v : Word) : (s.setAF v).bus = s.bus := rfl
@[simp] theorem State.setAF_cycles (v : Word) : (s.setAF v).cycles = s.cycles := rfl
@[simp] theorem State.setAF_params (v : Word) : (s.setAF v).params = s.params := rfl

@[simp] theorem State.setPair_a (rr : Pair) (v : Word) : (s.setPair rr v).a = s.a := by cases rr <;> rfl
@[simp] theorem State.setPair_flags (rr : Pair) (v : Word) : (s.setPair rr v).flags = s.flags := by cases rr <;> rfl
@[simp] theorem State.setPair_pc (rr : Pair) (v : Word) : (s.setPair rr v).pc = s.pc := by cases rr <;> rfl
@[simp] theorem State.setPair_ime (rr : Pair) (v : Word) : (s.setPair rr v).ime = s.ime := by cases rr <;> rfl
@[simp] theorem State.setPair_halted (rr : Pair) (v : Word) : (s.setPair rr v).halted = s.halted := by cases rr <;> rfl
@[simp] theorem State.setPair_haltBug (rr : Pair) (v : Word) : (s.setPair rr v).haltBug = s.haltBug := by cases rr <;> rfl
@[simp] theorem State.setPair_stopped (rr : Pair) (v : Word) : (s.setPair rr v).stopped = s.stopped := by cases rr <;> rfl
@[simp] theorem State.setPair_locked (rr : Pair) (v : Word) : (s.setPair rr v).locked = s.locked := by cases rr <;> rfl
@[simp] theorem State.setPair_fault (rr : Pair) (v : Word) : (s.setPair rr v).fault = s.fault := by cases rr <;> rfl
@[simp] theorem State.setPair_ie (rr : Pair) (v : Word) : (s.setPair rr v).ie = s.ie := by cases rr <;> rfl
@[simp] theorem State.setPair_iflag (rr : Pair) (v : Word) : (s.setPair rr v).iflag = s.iflag := by cases rr <;> rfl
@[simp] theorem State.setPair_div (rr : Pair) (v : Word) : (s.setPair rr v).div = s.div := by cases rr <;> rfl
@[simp] theorem State.setPair_divAcc (rr : Pair) (v : Word) : (s.setPair rr v).divAcc = s.divAcc := by cases rr <;> rfl
@[simp] theorem State.setPair_tima (rr : Pair) (v : Word) : (s.setPair rr v).tima = s.tima := by cases rr <;> rfl
@[simp] theorem State.setPair_tma (rr : Pair) (v : Word) : (s.setPair rr v).tma = s.tma := by cases rr <;> rfl
@[simp] theorem State.setPair_tac (rr : Pair) (v : Word) : (s.setPair rr v).tac = s.tac := by cases rr <;> rfl
@[simp] theorem State.setPair_countdown (rr : Pair) (v : Word) : (s.setPair rr v).countdown = s.countdown := by cases rr <;> rfl
@[simp] theorem State.setPair_bus (rr : Pair) (v : Word) : (s.setPair rr v).bus = s.bus := by cases rr <;> rfl
@[simp] theorem State.setPair_cycles (rr : Pair) (v : Word) : (s.setPair rr v).cycles = s.cycles := by cases rr <;> rfl
@[simp] theorem State.setPair_params (rr : Pair) (v : Word) : (s.setPair rr v).params = s.params := by cases rr <;> rfl

@[simp] theorem State.setStackPair_sp (rr : StackPair) (v : Word) : (s.setStackPair rr v).sp = s.sp := by cases rr <;> rfl
@[simp] theorem State.setStackPair_pc (rr : StackPair) (v : Word) : (s.setStackPair rr v).pc = s.pc := by cases rr <;> rfl
@[simp] theorem State.setStackPair_ime (rr : StackPair) (v : Word) : (s.setStackPair rr v).ime = s.ime := by cases rr <;> rfl
@[simp] theorem State.setStackPair_halted (rr : StackPair) (v : Word) : (s.setStackPair rr v).halted = s.halted := by cases rr <;> rfl
@[simp] theorem State.setStackPair_haltBug (rr : StackPair) (v : Word) : (s.setStackPair rr v).haltBug = s.haltBug := by cases rr <;> rfl
@[simp] theorem State.setStackPair_stopped (rr : StackPair) (v : Word) : (s.setStackPair rr v).stopped = s.stopped := by cases rr <;> rfl
@[simp] theorem State.setStackPair_locked (rr : StackPair) (v : Word) : (s.setStackPair rr v).locked = s.locked := by cases rr <;> rfl
@[simp] theorem State.setStackPair_fault (rr : StackPair) (v : Word) : (s.setStackPair rr v).fault = s.fault := by cases rr <;> rfl
@[simp] theorem State.setStackPair_ie (rr : StackPair) (v : Word) : (s.setStackPair rr v).ie = s.ie := by cases rr <;> rfl
@[simp] theorem State.setStackPair_iflag (rr : StackPair) (v : Word) : (s.setStackPair rr v).iflag = s.iflag := by cases rr <;> rfl
@[simp] theorem State.setStackPair_div (rr : StackPair) (v : Word) : (s.setStackPair rr v).div = s.div := by cases rr <;> rfl
@[simp] theorem State.setStackPair_divAcc (rr : StackPair) (v : Word) : (s.setStackPair rr v).divAcc = s.divAcc := by cases rr <;> rfl
@[simp] theorem State.setStackPair_tima (rr : StackPair) (v : Word) : (s.setStackPair rr v).tima = s.tima := by cases rr <;> rfl
@[simp] theorem State.setStackPair_tma (rr : StackPair) (v : Word) : (s.setStackPair rr v).tma = s.tma := by cases rr <;> rfl
@[simp] theorem State.setStackPair_tac (rr : StackPair) (v : Word) : (s.setStackPair rr v).tac = s.tac := by cases rr <;> rfl
@[simp] theorem State.setStackPair_countdown (rr : StackPair) (v : Word) : (s.setStackPair rr v).countdown = s.countdown := by cases rr <;> rfl
@[simp] theorem State.setStackPair_bus (rr : StackPair) (v : Word) : (s.setStackPair rr v).bus = s.bus := by cases rr <;> rfl
@[simp] theorem State.setStackPair_cycles (rr : StackPair) (v : Word) : (s.setStackPair rr v).cycles = s.cycles := by cases rr <;> rfl
@[simp] theorem State.setStackPair_params (rr : StackPair) (v : Word) : (s.setStackPair rr v).params = s.params := by cases rr <;> rfl

@[simp] theorem State.writeBlock_a (r : BlockReg) (v : Byte) : (s.writeBlock r v).a = s.a := by cases r <;> rfl
@[simp] theorem State.writeBlock_flags (r : BlockReg) (v : Byte) : (s.writeBlock r v).flags = s.flags := by cases r <;> rfl
@[simp] theorem State.writeBlock_b (r : BlockReg) (v : Byte) : (s.writeBlock r v).b = s.b := by cases r <;> rfl
@[simp] theorem State.writeBlock_c (r : BlockReg) (v : Byte) : (s.writeBlock r v).c = s.c := by cases r <;> rfl
@[simp] theorem State.writeBlock_d (r : BlockReg) (v : Byte) : (s.writeBlock r v).d = s.d := by cases r <;> rfl
@[simp] theorem State.writeBlock_e (r : BlockReg) (v : Byte) : (s.writeBlock r v).e = s.e := by cases r <;> rfl
@[simp] theorem State.writeBlock_h (r : BlockReg) (v : Byte) : (s.writeBlock r v).h = s.h := by cases r <;> rfl
@[simp] theorem State.writeBlock_l (r : BlockReg) (v : Byte) : (s.writeBlock r v).l = s.l := by cases r <;> rfl
@[simp] theorem State.writeBlock_sp (r : BlockReg) (v : Byte) : (s.writeBlock r v).sp = s.sp := by cases r <;> rfl
@[simp] theorem State.writeBlock_pc (r : BlockReg) (v : Byte) : (s.writeBlock r v).pc = s.pc := by cases r <;> rfl
@[simp] theorem State.writeBlock_ime (r : BlockReg) (v : Byte) : (s.writeBlock r v).ime = s.ime := by cases r <;> rfl
@[simp] theorem State.writeBlock_halted (r : BlockReg) (v : Byte) : (s.writeBlock r v).halted = s.halted := by cases r <;> rfl
@[simp] theorem State.writeBlock_haltBug (r : BlockReg) (v : Byte) : (s.writeBlock r v).haltBug = s.haltBug := by cases r <;> rfl
@[simp] theorem State.writeBlock_stopped (r : BlockReg) (v : Byte) : (s.writeBlock r v).stopped = s.stopped := by cases r <;> rfl
@[simp] theorem State.writeBlock_locked (r : BlockReg) (v : Byte) : (s.writeBlock r v).locked = s.locked := by cases r <;> rfl
@[simp] theorem State.writeBlock_fault (r : BlockReg) (v : Byte) : (s.writeBlock r v).fault = s.fault := by cases r <;> rfl
@[simp] theorem State.writeBlock_bus (r : BlockReg) (v : Byte) : (s.writeBlock r v).bus = s.bus := by cases r <;> rfl
@[simp] theorem State.writeBlock_cycles (r : BlockReg) (v : Byte) : (s.writeBlock r v).cycles = s.cycles := by cases r <;> rfl
@[simp] theorem State.writeBlock_params (r : BlockReg) (v : Byte) : (s.writeBlock r v).params = s.params := by cases r <;> rfl

@[simp] theorem State.memWrite_a (x : Word) (v : Byte) : (s.memWrite x v).a = s.a := by unfold State.memWrite; split <;> simp
@[simp] theorem State.memWrite_flags (x : Word) (v : Byte) : (s.memWrite x v).flags = s.flags := by unfold State.memWrite; split <;> simp
@[simp] theorem State.memWrite_b (x : Word) (v : Byte) : (s.memWrite x v).b = s.b := by unfold State.memWrite; split <;> simp
@[simp] theorem State.memWrite_c (x : Word) (v : Byte) : (s.memWrite x v).c = s.c := by unfold State.memWrite; split <;> simp
@[simp] theorem State.memWrite_d (x : Word) (v : Byte) : (s.memWrite x v).d = s.d := by unfold State.memWrite; split <;> simp
@[simp] theorem State.memWrite_e (x : Word) (v : Byte) : (s.memWrite x v).e = s.e := by unfold State.memWrite; split <;> simp
@[simp] theorem State.memWrite_h (x : Word) (v : Byte) : (s.memWrite x v).h = s.h := by unfold State.memWrite; split <;> simp
@[simp] theorem State.memWrite_l (x : Word) (v : Byte) : (s.memWrite x v).l = s.l := by unfold State.memWrite; split <;> simp
@[simp] theorem State.memWrite_sp (x : Word) (v : Byte) : (s.memWrite x v).sp = s.sp := by unfold State.memWrite; split <;> simp
@[simp] theorem State.memWrite_pc (x : Word) (v : Byte) : (s.memWrite x v).pc = s.pc := by unfold State.memWrite; split <;> simp
@[simp] theorem State.memWrite_ime (x : Word) (v : Byte) : (s.memWrite x v).ime = s.ime := by unfold State.memWrite; split <;> simp
@[simp] theorem State.memWrite_halted (x : Word) (v : Byte) : (s.memWrite x v).halted = s.halted := by unfold State.memWrite; split <;> simp
@[simp] theorem State.memWrite_haltBug (x : Word) (v : Byte) : (s.memWrite x v).haltBug = s.haltBug := by unfold State.memWrite; split <;> simp
@[simp] theorem State.memWrite_stopped (x : Word) (v : Byte) : (s.memWrite x v).stopped = s.stopped := by unfold State.memWrite; split <;> simp
@[simp] theorem State.memWrite_locked (x : Word) (v : Byte) : (s.memWrite x v).locked = s.locked := by unfold State.memWrite; split <;> simp
@[simp] theorem State.memWrite_fault (x : Word) (v : Byte) : (s.memWrite x v).fault = s.fault := by unfold State.memWrite; split <;> simp
@[simp] theorem State.memWrite_cycles (x : Word) (v : Byte) : (s.memWrite x v).cycles = s.cycles := by unfold State.memWrite; split <;> simp
@[simp] theorem State.memWrite_params (x : Word) (v : Byte) : (s.memWrite x v).params = s.params := by unfold State.memWrite; split <;> simp

@[simp] theorem State.push16_a (v : Word) : (s.push16 v).a = s.a := by simp [State.push16]
@[simp] theorem State.push16_flags (v : Word) : (s.push16 v).flags = s.flags := by simp [State.push16]
@[simp] theorem State.push16_b (v : Word) : (s.push16 v).b = s.b := by simp [State.push16]
@[simp] theorem State.push16_c (v : Word) : (s.push16 v).c = s.c := by simp [State.push16]
@[simp] theorem State.push16_d (v : Word) : (s.push16 v).d = s.d := by simp [State.push16]
@[simp] theorem State.push16_e (v : Word) : (s.push16 v).e = s.e := by simp [State.push16]
@[simp] theorem State.push16_h (v : Word) : (s.push16 v).h = s.h := by simp [State.push16]
@[simp] theorem State.push16_l (v : Word) : (s.push16 v).l = s.l := by simp [State.push16]
@[simp] theorem State.push16_pc (v : Word) : (s.push16 v).pc = s.pc := by simp [State.push16]
@[simp] theorem State.push16_ime (v : Word) : (s.push16 v).ime = s.ime := by simp [State.push16]
@[simp] theorem State.push16_halted (v : Word) : (s.push16 v).halted = s.halted := by simp [State.push16]
@[simp] theorem State.push16_haltBug (v : Word) : (s.push16 v).haltBug = s.haltBug := by simp [State.push16]
@[simp] theorem State.push16_stopped (v : Word) : (s.push16 v).stopped = s.stopped := by simp [State.push16]
@[simp] theorem State.push16_locked (v : Word) : (s.push16 v).locked = s.locked := by simp [State.push16]
@[simp] theorem State.push16_fault (v : Word) : (s.push16 v).fault = s.fault := by simp [State.push16]
@[simp] theorem State.push16_cycles (v : Word) : (s.push16 v).cycles = s.cycles := by simp [State.push16]
@[simp] theorem State.push16_params (v : Word) : (s.push16 v).params = s.params := by simp [State.push16]

@[simp] theorem State.advance_a (len : Nat) : (s.advance len).a = s.a := rfl
@[simp] theorem State.advance_flags (len : Nat) : (s.advance len).flags = s.flags := rfl
@[simp] theorem State.advance_b (len : Nat) : (s.advance len).b = s.b := rfl
@[simp] theorem State.advance_c (len : Nat) : (s.advance len).c = s.c := rfl
@[simp] theorem State.advance_d (len : Nat) : (s.advance len).d = s.d := rfl
@[simp] theorem State.advance_e (len : Nat) : (s.advance len).e = s.e := rfl
@[simp] theorem State.advance_h (len : Nat) : (s.advance len).h = s.h := rfl
@[simp] theorem State.advance_l (len : Nat) : (s.advance len).l = s.l := rfl
@[simp] theorem State.advance_sp (len : Nat) : (s.advance len).sp = s.sp := rfl
@[simp] theorem State.advance_ime (len : Nat) : (s.advance len).ime = s.ime := rfl
@[simp] theorem State.advance_halted (len : Nat) : (s.advance len).halted = s.halted := rfl
@[simp] theorem State.advance_stopped (len : Nat) : (s.advance len).stopped = s.stopped := rfl
@[simp] theorem State.advance_locked (len : Nat) : (s.advance len).locked = s.locked := rfl
@[simp] theorem State.advance_fault (len : Nat) : (s.advance len).fault = s.fault := rfl
@[simp] theorem State.advance_ie (len : Nat) : (s.advance len).ie = s.ie := rfl
@[simp] theorem State.advance_iflag (len : Nat) : (s.advance len).iflag = s.iflag := rfl
@[simp] theorem State.advance_div (len : Nat) : (s.advance len).div = s.div := rfl
@[simp] theorem State.advance_divAcc (len : Nat) : (s.advance len).divAcc = s.divAcc := rfl
@[simp] theorem State.advance_tima (len : Nat) : (s.advance len).tima = s.tima := rfl
@[simp] theorem State.advance_tma (len : Nat) : (s.advance len).tma = s.tma := rfl
@[simp] theorem State.advance_tac (len : Nat) : (s.advance len).tac = s.tac := rfl
@[simp] theorem State.advance_countdown (len : Nat) : (s.advance len).countdown = s.countdown := rfl
@[simp] theorem State.advance_bus (len : Nat) : (s.advance len).bus = s.bus := rfl
@[simp] theorem State.advance_cycles (len : Nat) : (s.advance len).cycles = s.cycles := rfl
@[simp] theorem State.advance_params (len : Nat) : (s.advance len).params = s.params := rfl

@[simp] theorem State.report_a (k : Nat) : (s.report k).a = s.a := rfl
@[simp] theorem State.report_flags (k : Nat) : (s.report k).flags = s.flags := rfl
@[simp] theorem State.report_b (k : Nat) : (s.report k).b = s.b := rfl
@[simp] theorem State.report_c (k : Nat) : (s.report k).c = s.c := rfl
@[simp] theorem State.report_d (k : Nat) : (s.report k).d = s.d := rfl
@[simp] theorem State.report_e (k : Nat) : (s.report k).e = s.e := rfl
@[simp] theorem State.report_h (k : Nat) : (s.report k).h = s.h := rfl
@[simp] theorem State.report_l (k : Nat) : (s.report k).l = s.l := rfl
@[simp] theorem State.report_sp (k : Nat) : (s.report k).sp = s.sp := rfl
@[simp] theorem State.report_pc (k : Nat) : (s.report k).pc = s.pc := rfl
@[simp] theorem State.report_ime (k : Nat) : (s.report k).ime = s.ime := rfl
@[simp] theorem State.report_halted (k : Nat) : (s.report k).halted = s.halted := rfl
@[simp] theorem State.report_haltBug (k : Nat) : (s.report k).haltBug = s.haltBug := rfl
@[simp] theorem State.report_stopped (k : Nat) : (s.report k).stopped = s.stopped := rfl
@[simp] theorem State.report_locked (k : Nat) : (s.report k).locked = s.locked := rfl
@[simp] theorem State.report_fault (k : Nat) : (s.report k).fault = s.fault := rfl
@[simp] theorem State.report_ie (k : Nat) : (s.report k).ie = s.ie := rfl
@[simp] theorem State.report_iflag (k : Nat) : (s.report k).iflag = s.iflag := rfl
@[simp] theorem State.report_div (k : Nat) : (s.report k).div = s.div := rfl
@[simp] theorem State.report_divAcc (k : Nat) : (s.report k).divAcc = s.divAcc := rfl
@[simp] theorem State.report_tima (k : Nat) : (s.report k).tima = s.tima := rfl
@[simp] theorem State.report_tma (k : Nat) : (s.report k).tma = s.tma := rfl
@[simp] theorem State.report_tac (k : Nat) : (s.report k).tac = s.tac := rfl
@[simp] theorem State.report_countdown (k : Nat) : (s.report k).countdown = s.countdown := rfl
@[simp] theorem State.report_bus (k : Nat) : (s.report k).bus = s.bus := rfl
@[simp] theorem State.report_params (k : Nat) : (s.report k).params = s.params := rfl

@[simp] theorem State.dropWord_a : (s.dropWord).a = s.a := rfl
@[simp] theorem State.dropWord_flags : (s.dropWord).flags = s.flags := rfl
@[simp] theorem State.dropWord_b : (s.dropWord).b = s.b := rfl
@[simp] theorem State.dropWord_c : (s.dropWord).c = s.c := rfl
@[simp] theorem State.dropWord_d : (s.dropWord).d = s.d := rfl
@[simp] theorem State.dropWord_e : (s.dropWord).e = s.e := rfl
@[simp] theorem State.dropWord_h : (s.dropWord).h = s.h := rfl
@[simp] theorem State.dropWord_l : (s.dropWord).l = s.l := rfl
@[simp] theorem State.dropWord_pc : (s.dropWord).pc = s.pc := rfl
@[simp] theorem State.dropWord_ime : (s.dropWord).ime = s.ime := rfl
@[simp] theorem State.dropWord_halted : (s.dropWord).halted = s.halted := rfl
@[simp] theorem State.dropWord_haltBug : (s.dropWord).haltBug = s.haltBug := rfl
@[simp] theorem State.dropWord_stopped : (s.dropWord).stopped = s.stopped := rfl
@[simp] theorem State.dropWord_locked : (s.dropWord).locked = s.locked := rfl
@[simp] theorem State.dropWord_fault : (s.dropWord).fault = s.fault := rfl
@[simp] theorem State.dropWord_ie : (s.dropWord).ie = s.ie := rfl
@[simp] theorem State.dropWord_iflag : (s.dropWord).iflag = s.iflag := rfl
@[simp] theorem State.dropWord_div : (s.dropWord).div = s.div := rfl
@[simp] theorem State.dropWord_divAcc : (s.dropWord).divAcc = s.divAcc := rfl
@[simp] theorem State.dropWord_tima : (s.dropWord).tima = s.tima := rfl
@[simp] theorem State.dropWord_tma : (s.dropWord).tma = s.tma := rfl
@[simp] theorem State.dropWord_tac : (s.dropWord).tac = s.tac := rfl
@[simp] theorem State.dropWord_countdown : (s.dropWord).countdown = s.countdown := rfl
@[simp] theorem State.dropWord_bus : (s.dropWord).bus = s.bus := rfl
@[simp] theorem State.dropWord_cycles : (s.dropWord).cycles = s.cycles := rfl
@[simp] theorem State.dropWord_params : (s.dropWord).params = s.params := rfl

@[simp] theorem State.wake_a : (s.wake).a = s.a := by unfold State.wake; split <;> rfl
@[simp] theorem State.wake_flags : (s.wake).flags = s.flags := by unfold State.wake; split <;> rfl
@[simp] theorem State.wake_b : (s.wake).b = s.b := by unfold State.wake; split <;> rfl
@[simp] theorem State.wake_c : (s.wake).c = s.c := by unfold State.wake; split <;> rfl
@[simp] theorem State.wake_d : (s.wake).d = s.d := by unfold State.wake; split <;> rfl
@[simp] theorem State.wake_e : (s.wake).e = s.e := by unfold State.wake; split <;> rfl
@[simp] theorem State.wake_h : (s.wake).h = s.h := by unfold State.wake; split <;> rfl
@[simp] theorem State.wake_l : (s.wake).l = s.l := by unfold State.wake; split <;> rfl
@[simp] theorem State.wake_sp : (s.wake).sp = s.sp := by unfold State.wake; split <;> rfl
@[simp] theorem State.wake_pc : (s.wake).pc = s.pc := by unfold State.wake; split <;> rfl
@[simp] theorem State.wake_ime : (s.wake).ime = s.ime := by unfold State.wake; split <;> rfl
@[simp] theorem State.wake_haltBug : (s.wake).haltBug = s.haltBug := by unfold State.wake; split <;> rfl
@[simp] theorem State.wake_stopped : (s.wake).stopped = s.stopped := by unfold State.wake; split <;> rfl
@[simp] theorem State.wake_locked : (s.wake).locked = s.locked := by unfold State.wake; split <;> rfl
@[simp] theorem State.wake_fault : (s.wake).fault = s.fault := by unfold State.wake; split <;> rfl
@[simp] theorem State.wake_ie : (s.wake).ie = s.ie := by unfold State.wake; split <;> rfl
@[simp] theorem State.wake_iflag : (s.wake).iflag = s.iflag := by unfold State.wake; split <;> rfl
@[simp] theorem State.wake_div : (s.wake).div = s.div := by unfold State.wake; split <;> rfl
@[simp] theorem State.wake_divAcc : (s.wake).divAcc = s.divAcc := by unfold State.wake; split <;> rfl
@[simp] theorem State.wake_tima : (s.wake).tima = s.tima := by unfold State.wake; split <;> rfl
@[simp] theorem State.wake_tma : (s.wake).tma = s.tma := by unfold State.wake; split <;> rfl
@[simp] theorem State.wake_tac : (s.wake).tac = s.tac := by unfold State.wake; split <;> rfl
@[simp] theorem State.wake_countdown : (s.wake).countdown = s.countdown := by unfold State.wake; split <;> rfl
@[simp] theorem State.wake_bus : (s.wake).bus = s.bus := by unfold State.wake; split <;> rfl
@[simp] theorem State.wake_cycles : (s.wake).cycles = s.cycles := by unfold State.wake; split <;> rfl
@[simp] theorem State.wake_params : (s.wake).params = s.params := by unfold State.wake; split <;> rfl

@[simp] theorem State.raiseIllegal_a (op : Byte) (x : Word) : (s.raiseIllegal op x).a = s.a := rfl
@[simp] theorem State.raiseIllegal_flags (op : Byte) (x : Word) : (s.raiseIllegal op x).flags = s.flags := rfl
@[simp] theorem State.raiseIllegal_b (op : Byte) (x : Word) : (s.raiseIllegal op x).b = s.b := rfl
@[simp] theorem State.raiseIllegal_c (op : Byte) (x : Word) : (s.raiseIllegal op x).c = s.c := rfl
@[simp] theorem State.raiseIllegal_d (op : Byte) (x : Word) : (s.raiseIllegal op x).d = s.d := rfl
@[simp] theorem State.raiseIllegal_e (op : Byte) (x : Word) : (s.raiseIllegal op x).e = s.e := rfl
@[simp] theorem State.raiseIllegal_h (op : Byte) (x : Word) : (s.raiseIllegal op x).h = s.h := rfl
@[simp] theorem State.raiseIllegal_l (op : Byte) (x : Word) : (s.raiseIllegal op x).l = s.l := rfl
@[simp] theorem State.raiseIllegal_sp (op : Byte) (x : Word) : (s.raiseIllegal op x).sp = s.sp := rfl
@[simp] theorem State.raiseIllegal_pc (op : Byte) (x : Word) : (s.raiseIllegal op x).pc = s.pc := rfl
@[simp] theorem State.raiseIllegal_ime (op : Byte) (x : Word) : (s.raiseIllegal op x).ime = s.ime := rfl
@[simp] theorem State.raiseIllegal_halted (op : Byte) (x : Word) : (s.raiseIllegal op x).halted = s.halted := rfl
@[simp] theorem State.raiseIllegal_haltBug (op : Byte) (x : Word) : (s.raiseIllegal op x).haltBug = s.haltBug := rfl
@[simp] theorem State.raiseIllegal_stopped (op : Byte) (x : Word) : (s.raiseIllegal op x).stopped = s.stopped := rfl
@[simp] theorem State.raiseIllegal_ie (op : Byte) (x : Word) : (s.raiseIllegal op x).ie = s.ie := rfl
@[simp] theorem State.raiseIllegal_iflag (op : Byte) (x : Word) : (s.raiseIllegal op x).iflag = s.iflag := rfl
@[simp] theorem State.raiseIllegal_div (op : Byte) (x : Word) : (s.raiseIllegal op x).div = s.div := rfl
@[simp] theorem State.raiseIllegal_divAcc (op : Byte) (x : Word) : (s.raiseIllegal op x).divAcc = s.divAcc := rfl
@[simp] theorem State.raiseIllegal_tima (op : Byte) (x : Word) : (s.raiseIllegal op x).tima = s.tima := rfl
@[simp] theorem State.raiseIllegal_tma (op : Byte) (x : Word) : (s.raiseIllegal op x).tma = s.tma := rfl
@[simp] theorem State.raiseIllegal_tac (op : Byte) (x : Word) : (s.raiseIllegal op x).tac = s.tac := rfl
@[simp] theorem State.raiseIllegal_countdown (op : Byte) (x : Word) : (s.raiseIllegal op x).countdown = s.countdown := rfl
@[simp] theorem State.raiseIllegal_bus (op : Byte) (x : Word) : (s.raiseIllegal op x).bus = s.bus := rfl
@[simp] theorem State.raiseIllegal_cycles (op : Byte) (x : Word) : (s.raiseIllegal op x).cycles = s.cycles := rfl
@[simp] theorem State.raiseIllegal_params (op : Byte) (x : Word) : (s.raiseIllegal op x).params = s.params := rfl

@[simp] theorem State.advanceDivider_a (k : Nat) : (s.advanceDivider k).a = s.a := rfl
@[simp] theorem State.advanceDivider_flags (k : Nat) : (s.advanceDivider k).flags = s.flags := rfl
@[simp] theorem State.advanceDivider_b (k : Nat) : (s.advanceDivider k).b = s.b := rfl
@[simp] theorem State.advanceDivider_c (k : Nat) : (s.advanceDivider k).c = s.c := rfl
@[simp] theorem State.advanceDivider_d (k : Nat) : (s.advanceDivider k).d = s.d := rfl
@[simp] theorem State.advanceDivider_e (k : Nat) : (s.advanceDivider k).e = s.e := rfl
@[simp] theorem State.advanceDivider_h (k : Nat) : (s.advanceDivider k).h = s.h := rfl
@[simp] theorem State.advanceDivider_l (k : Nat) : (s.advanceDivider k).l = s.l := rfl
@[simp] theorem State.advanceDivider_sp (k : Nat) : (s.advanceDivider k).sp = s.sp := rfl
@[simp] theorem State.advanceDivider_pc (k : Nat) : (s.advanceDivider k).pc = s.pc := rfl
@[simp] theorem State.advanceDivider_ime (k : Nat) : (s.advanceDivider k).ime = s.ime := rfl
@[simp] theorem State.advanceDivider_halted (k : Nat) : (s.advanceDivider k).halted = s.halted := rfl
@[simp] theorem State.advanceDivider_haltBug (k : Nat) : (s.advanceDivider k).haltBug = s.haltBug := rfl
@[simp] theorem State.advanceDivider_stopped (k : Nat) : (s.advanceDivider k).stopped = s.stopped := rfl
@[simp] theorem State.advanceDivider_locked (k : Nat) : (s.advanceDivider k).locked = s.locked := rfl
@[simp] theorem State.advanceDivider_fault (k : Nat) : (s.advanceDivider k).fault = s.fault := rfl
@[simp] theorem State.advanceDivider_ie (k : Nat) : (s.advanceDivider k).ie = s.ie := rfl
@[simp] theorem State.advanceDivider_iflag (k : Nat) : (s.advanceDivider k).iflag = s.iflag := rfl
@[simp] theorem State.advanceDivider_tima (k : Nat) : (s.advanceDivider k).tima = s.tima := rfl
@[simp] theorem State.advanceDivider_tma (k : Nat) : (s.advanceDivider k).tma = s.tma := rfl
@[simp] theorem State.advanceDivider_tac (k : Nat) : (s.advanceDivider k).tac = s.tac := rfl
@[simp] theorem State.advanceDivider_countdown (k : Nat) : (s.advanceDivider k).countdown = s.countdown := rfl
@[simp] theorem State.advanceDivider_bus (k : Nat) : (s.advanceDivider k).bus = s.bus := rfl
@[simp] theorem State.advanceDivider_cycles (k : Nat) : (s.advanceDivider k).cycles = s.cycles := rfl
@[simp] theorem State.advanceDivider_params (k : Nat) : (s.advanceDivider k).params = s.params := rfl

@[simp] theorem State.timaTick_a : (s.timaTick).a = s.a := by unfold State.timaTick; split <;> rfl
@[simp] theorem State.timaTick_flags : (s.timaTick).flags = s.flags := by unfold State.timaTick; split <;> rfl
@[simp] theorem State.timaTick_b : (s.timaTick).b = s.b := by unfold State.timaTick; split <;> rfl
@[simp] theorem State.timaTick_c : (s.timaTick).c = s.c := by unfold State.timaTick; split <;> rfl
@[simp] theorem State.timaTick_d : (s.timaTick).d = s.d := by unfold State.timaTick; split <;> rfl
@[simp] theorem State.timaTick_e : (s.timaTick).e = s.e := by unfold State.timaTick; split <;> rfl
@[simp] theorem State.timaTick_h : (s.timaTick).h = s.h := by unfold State.timaTick; split <;> rfl
@[simp] theorem State.timaTick_l : (s.timaTick).l = s.l := by unfold State.timaTick; split <;> rfl
@[simp] theorem State.timaTick_sp : (s.timaTick).sp = s.sp := by unfold State.timaTick; split <;> rfl
@[simp] theorem State.timaTick_pc : (s.timaTick).pc = s.pc := by unfold State.timaTick; split <;> rfl
@[simp] theorem State.timaTick_ime : (s.timaTick).ime = s.ime := by unfold State.timaTick; split <;> rfl
@[simp] theorem State.timaTick_halted : (s.timaTick).halted = s.halted := by unfold State.timaTick; split <;> rfl
@[simp] theorem State.timaTick_haltBug : (s.timaTick).haltBug = s.haltBug := by unfold State.timaTick; split <;> rfl
@[simp] theorem State.timaTick_stopped : (s.timaTick).stopped = s.stopped := by unfold State.timaTick; split <;> rfl
@[simp] theorem State.timaTick_locked : (s.timaTick).locked = s.locked := by unfold State.timaTick; split <;> rfl
@[simp] theorem State.timaTick_fault : (s.timaTick).fault = s.fault := by unfold State.timaTick; split <;> rfl
@[simp] theorem State.timaTick_ie : (s.timaTick).ie = s.ie := by unfold State.timaTick; split <;> rfl
@[simp] theorem State.timaTick_div : (s.timaTick).div = s.div := by unfold State.timaTick; split <;> rfl
@[simp] theorem State.timaTick_divAcc : (s.timaTick).divAcc = s.divAcc := by unfold State.timaTick; split <;> rfl
@[simp] theorem State.timaTick_tma : (s.timaTick).tma = s.tma := by unfold State.timaTick; split <;> rfl
@[simp] theorem State.timaTick_tac : (s.timaTick).tac = s.tac := by unfold State.timaTick; split <;> rfl
@[simp] theorem State.timaTick_countdown : (s.timaTick).countdown = s.countdown := by unfold State.timaTick; split <;> rfl
@[simp] theorem State.timaTick_bus : (s.timaTick).bus = s.bus := by unfold State.timaTick; split <;> rfl
@[simp] theorem State.timaTick_cycles : (s.timaTick).cycles = s.cycles := by unfold State.timaTick; split <;> rfl
@[simp] theorem State.timaTick_params : (s.timaTick).params = s.params := by unfold State.timaTick; split <;> rfl

@[simp] theorem State.timaTicks_a (n : Nat) : (s.timaTicks n).a = s.a := by
  induction n with
  | zero => rfl
  | succ n ih => simp [State.timaTicks, ih]
@[simp] theorem State.timaTicks_flags (n : Nat) : (s.timaTicks n).flags = s.flags := by
  induction n with
  | zero => rfl
  | succ n ih => simp [State.timaTicks, ih]
@[simp] theorem State.timaTicks_b (n : Nat) : (s.timaTicks n).b = s.b := by
  induction n with
  | zero => rfl
  | succ n ih => simp [State.timaTicks, ih]
@[simp] theorem State.timaTicks_c (n : Nat) : (s.timaTicks n).c = s.c := by
  induction n with
  | zero => rfl
  | succ n ih => simp [State.timaTicks, ih]
@[simp] theorem State.timaTicks_d (n : Nat) : (s.timaTicks n).d = s.d := by
  induction n with
  | zero => rfl
  | succ n ih => simp [State.timaTicks, ih]
@[simp] theorem State.timaTicks_e (n : Nat) : (s.timaTicks n).e = s.e := by
  induction n with
  | zero => rfl
  | succ n ih => simp [State.timaTicks, ih]
@[simp] theorem State.timaTicks_h (n : Nat) : (s.timaTicks n).h = s.h := by
  induction n with
  | zero => rfl
  | succ n ih => simp [State.timaTicks, ih]
@[simp] theorem State.timaTicks_l (n : Nat) : (s.timaTicks n).l = s.l := by
  induction n with
  | zero => rfl
  | succ n ih => simp [State.timaTicks, ih]
@[simp] theorem State.timaTicks_sp (n : Nat) : (s.timaTicks n).sp = s.sp := by
  induction n with
  | zero => rfl
  | succ n ih => simp [State.timaTicks, ih]
@[simp] theorem State.timaTicks_pc (n : Nat) : (s.timaTicks n).pc = s.pc := by
  induction n with
  | zero => rfl
  | succ n ih => simp [State.timaTicks, ih]
@[simp] theorem State.timaTicks_ime (n : Nat) : (s.timaTicks n).ime = s.ime := by
  induction n with
  | zero => rfl
  | succ n ih => simp [State.timaTicks, ih]
@[simp] theorem State.timaTicks_halted (n : Nat) : (s.timaTicks n).halted = s.halted := by
  induction n with
  | zero => rfl
  | succ n ih => simp [State.timaTicks, ih]
@[simp] theorem State.timaTicks_haltBug (n : Nat) : (s.timaTicks n).haltBug = s.haltBug := by
  induction n with
  | zero => rfl
  | succ n ih => simp [State.timaTicks, ih]
@[simp] theorem State.timaTicks_stopped (n : Nat) : (s.timaTicks n).stopped = s.stopped := by
  induction n with
  | zero => rfl
  | succ n ih => simp [State.timaTicks, ih]
@[simp] theorem State.timaTicks_locked (n : Nat) : (s.timaTicks n).locked = s.locked := by
  induction n with
  | zero => rfl
  | succ n ih => simp [State.timaTicks, ih]
@[simp] theorem State.timaTicks_fault (n : Nat) : (s.timaTicks n).fault = s.fault := by
  induction n with
  | zero => rfl
  | succ n ih => simp [State.timaTicks, ih]
@[simp] theorem State.timaTicks_ie (n : Nat) : (s.timaTicks n).ie = s.ie := by
  induction n with
  | zero => rfl
  | succ n ih => simp [State.timaTicks, ih]
@[simp] theorem State.timaTicks_div (n : Nat) : (s.timaTicks n).div = s.div := by
  induction n with
  | zero => rfl
  | succ n ih => simp [State.timaTicks, ih]
@[simp] theorem State.timaTicks_divAcc (n : Nat) : (s.timaTicks n).divAcc = s.divAcc := by
  induction n with
  | zero => rfl
  | succ n ih => simp [State.timaTicks, ih]
@[simp] theorem State.timaTicks_tma (n : Nat) : (s.timaTicks n).tma = s.tma := by
  induction n with
  | zero => rfl
  | succ n ih => simp [State.timaTicks, ih]
@[simp] theorem State.timaTicks_tac (n : Nat) : (s.timaTicks n).tac = s.tac := by
  induction n with
  | zero => rfl
  | succ n ih => simp [State.timaTicks, ih]
@[simp] theorem State.timaTicks_countdown (n : Nat) : (s.timaTicks n).countdown = s.countdown := by
  induction n with
  | zero => rfl
  | succ n ih => simp [State.timaTicks, ih]
@[simp] theorem State.timaTicks_bus (n : Nat) : (s.timaTicks n).bus = s.bus := by
  induction n with
  | zero => rfl
  | succ n ih => simp [State.timaTicks, ih]
@[simp] theorem State.timaTicks_cycles (n : Nat) : (s.timaTicks n).cycles = s.cycles := by
  induction n with
  | zero => rfl
  | succ n ih => simp [State.timaTicks, ih]
@[simp] theorem State.timaTicks_params (n : Nat) : (s.timaTicks n).params = s.params := by
  induction n with
  | zero => rfl
  | succ n ih => simp [State.timaTicks, ih]

@[simp] theorem State.advanceCountdown_a (k : Nat) : (s.advanceCountdown k).a = s.a := by unfold State.advanceCountdown; split <;> simp
@[simp] theorem State.advanceCountdown_flags (k : Nat) : (s.advanceCountdown k).flags = s.flags := by unfold State.advanceCountdown; split <;> simp
@[simp] theorem State.advanceCountdown_b (k : Nat) : (s.advanceCountdown k).b = s.b := by unfold State.advanceCountdown; split <;> simp
@[simp] theorem State.advanceCountdown_c (k : Nat) : (s.advanceCountdown k).c = s.c := by unfold State.advanceCountdown; split <;> simp
@[simp] theorem State.advanceCountdown_d (k : Nat) : (s.advanceCountdown k).d = s.d := by unfold State.advanceCountdown; split <;> simp
@[simp] theorem State.advanceCountdown_e (k : Nat) : (s.advanceCountdown k).e = s.e := by unfold State.advanceCountdown; split <;> simp
@[simp] theorem State.advanceCountdown_h (k : Nat) : (s.advanceCountdown k).h = s.h := by unfold State.advanceCountdown; split <;> simp
@[simp] theorem State.advanceCountdown_l (k : Nat) : (s.advanceCountdown k).l = s.l := by unfold State.advanceCountdown; split <;> simp
@[simp] theorem State.advanceCountdown_sp (k : Nat) : (s.advanceCountdown k).sp = s.sp := by unfold State.advanceCountdown; split <;> simp
@[simp] theorem State.advanceCountdown_pc (k : Nat) : (s.advanceCountdown k).pc = s.pc := by unfold State.advanceCountdown; split <;> simp
@[simp] theorem State.advanceCountdown_ime (k : Nat) : (s.advanceCountdown k).ime = s.ime := by unfold State.advanceCountdown; split <;> simp
@[simp] theorem State.advanceCountdown_halted (k : Nat) : (s.advanceCountdown k).halted = s.halted := by unfold State.advanceCountdown; split <;> simp
@[simp] theorem State.advanceCountdown_haltBug (k : Nat) : (s.advanceCountdown k).haltBug = s.haltBug := by unfold State.advanceCountdown; split <;> simp
@[simp] theorem State.advanceCountdown_stopped (k : Nat) : (s.advanceCountdown k).stopped = s.stopped := by unfold State.advanceCountdown; split <;> simp
@[simp] theorem State.advanceCountdown_locked (k : Nat) : (s.advanceCountdown k).locked = s.locked := by unfold State.advanceCountdown; split <;> simp
@[simp] theorem State.advanceCountdown_fault (k : Nat) : (s.advanceCountdown k).fault = s.fault := by unfold State.advanceCountdown; split <;> simp
@[simp] theorem State.advanceCountdown_ie (k : Nat) : (s.advanceCountdown k).ie = s.ie := by unfold State.advanceCountdown; split <;> simp
@[simp] theorem State.advanceCountdown_div (k : Nat) : (s.advanceCountdown k).div = s.div := by unfold State.advanceCountdown; split <;> simp
@[simp] theorem State.advanceCountdown_divAcc (k : Nat) : (s.advanceCountdown k).divAcc = s.divAcc := by unfold State.advanceCountdown; split <;> simp
@[simp] theorem State.advanceCountdown_tma (k : Nat) : (s.advanceCountdown k).tma = s.tma := by unfold State.advanceCountdown; split <;> simp
@[simp] theorem State.advanceCountdown_tac (k : Nat) : (s.advanceCountdown k).tac = s.tac := by unfold State.advanceCountdown; split <;> simp
@[simp] theorem State.advanceCountdown_bus (k : Nat) : (s.advanceCountdown k).bus = s.bus := by unfold State.advanceCountdown; split <;> simp
@[simp] theorem State.advanceCountdown_cycles (k : Nat) : (s.advanceCountdown k).cycles = s.cycles := by unfold State.advanceCountdown; split <;> simp
@[simp] theorem State.advanceCountdown_params (k : Nat) : (s.advanceCountdown k).params = s.params := by unfold State.advanceCountdown; split <;> simp

@[simp] theorem State.timerAdvance_a (k : Nat) : (s.timerAdvance k).a = s.a := by simp [State.timerAdvance]
@[simp] theorem State.timerAdvance_flags (k : Nat) : (s.timerAdvance k).flags = s.flags := by simp [State.timerAdvance]
@[simp] theorem State.timerAdvance_b (k : Nat) : (s.timerAdvance k).b = s.b := by simp [State.timerAdvance]
@[simp] theorem State.timerAdvance_c (k : Nat) : (s.timerAdvance k).c = s.c := by simp [State.timerAdvance]
@[simp] theorem State.timerAdvance_d (k : Nat) : (s.timerAdvance k).d = s.d := by simp [State.timerAdvance]
@[simp] theorem State.timerAdvance_e (k : Nat) : (s.timerAdvance k).e = s.e := by simp [State.timerAdvance]
@[simp] theorem State.timerAdvance_h (k : Nat) : (s.timerAdvance k).h = s.h := by simp [State.timerAdvance]
@[simp] theorem State.timerAdvance_l (k : Nat) : (s.timerAdvance k).l = s.l := by simp [State.timerAdvance]
@[simp] theorem State.timerAdvance_sp (k : Nat) : (s.timerAdvance k).sp = s.sp := by simp [State.timerAdvance]
@[simp] theorem State.timerAdvance_pc (k : Nat) : (s.timerAdvance k).pc = s.pc := by simp [State.timerAdvance]
@[simp] theorem State.timerAdvance_ime (k : Nat) : (s.timerAdvance k).ime = s.ime := by simp [State.timerAdvance]
@[simp] theorem State.timerAdvance_halted (k : Nat) : (s.timerAdvance k).halted = s.halted := by simp [State.timerAdvance]
@[simp] theorem State.timerAdvance_haltBug (k : Nat) : (s.timerAdvance k).haltBug = s.haltBug := by simp [State.timerAdvance]
@[simp] theorem State.timerAdvance_stopped (k : Nat) : (s.timerAdvance k).stopped = s.stopped := by simp [State.timerAdvance]
@[simp] theorem State.timerAdvance_locked (k : Nat) : (s.timerAdvance k).locked = s.locked := by simp [State.timerAdvance]
@[simp] theorem State.timerAdvance_fault (k : Nat) : (s.timerAdvance k).fault = s.fault := by simp [State.timerAdvance]
@[simp] theorem State.timerAdvance_ie (k : Nat) : (s.timerAdvance k).ie = s.ie := by simp [State.timerAdvance]
@[simp] theorem State.timerAdvance_tma (k : Nat) : (s.timerAdvance k).tma = s.tma := by simp [State.timerAdvance]
@[simp] theorem State.timerAdvance_tac (k : Nat) : (s.timerAdvance k).tac = s.tac := by simp [State.timerAdvance]
@[simp] theorem State.timerAdvance_bus (k : Nat) : (s.timerAdvance k).bus = s.bus := by simp [State.timerAdvance]
@[simp] theorem State.timerAdvance_cycles (k : Nat) : (s.timerAdvance k).cycles = s.cycles := by simp [State.timerAdvance]
@[simp] theorem State.timerAdvance_params (k : Nat) : (s.timerAdvance k).params = s.params := by simp [State.timerAdvance]

@[simp] theorem State.writeLoc_flags (x : Loc) (v : Byte) : (s.writeLoc x v).flags = s.flags := by cases x <;> simp [State.writeLoc]
@[simp] theorem State.writeLoc_sp (x : Loc) (v : Byte) : (s.writeLoc x v).sp = s.sp := by cases x <;> simp [State.writeLoc]
@[simp] theorem State.writeLoc_pc (x : Loc) (v : Byte) : (s.writeLoc x v).pc = s.pc := by cases x <;> simp [State.writeLoc]
@[simp] theorem State.writeLoc_ime (x : Loc) (v : Byte) : (s.writeLoc x v).ime = s.ime := by cases x <;> simp [State.writeLoc]
@[simp] theorem State.writeLoc_halted (x : Loc) (v : Byte) : (s.writeLoc x v).halted = s.halted := by cases x <;> simp [State.writeLoc]
@[simp] theorem State.writeLoc_haltBug (x : Loc) (v : Byte) : (s.writeLoc x v).haltBug = s.haltBug := by cases x <;> simp [State.writeLoc]
@[simp] theorem State.writeLoc_stopped (x : Loc) (v : Byte) : (s.writeLoc x v).stopped = s.stopped := by cases x <;> simp [State.writeLoc]
@[simp] theorem State.writeLoc_locked (x : Loc) (v : Byte) : (s.writeLoc x v).locked = s.locked := by cases x <;> simp [State.writeLoc]
@[simp] theorem State.writeLoc_fault (x : Loc) (v : Byte) : (s.writeLoc x v).fault = s.fault := by cases x <;> simp [State.writeLoc]
@[simp] theorem State.writeLoc_cycles (x : Loc) (v : Byte) : (s.writeLoc x v).cycles = s.cycles := by cases x <;> simp [State.writeLoc]
@[simp] theorem State.writeLoc_params (x : Loc) (v : Byte) : (s.writeLoc x v).params = s.params := by cases x <;> simp [State.writeLoc]

@[simp] theorem State.setBC_b (v : Word) : (s.setBC v).b = hiByte v := rfl
@[simp] theorem State.setBC_c (v : Word) : (s.setBC v).c = loByte v := rfl
@[simp] theorem State.setDE_d (v : Word) : (s.setDE v).d = hiByte v := rfl
@[simp] theorem State.setDE_e (v : Word) : (s.setDE v).e = loByte v := rfl
@[simp] theorem State.setHL_h (v : Word) : (s.setHL v).h = hiByte v := rfl
@[simp] theorem State.setHL_l (v : Word) : (s.setHL v).l = loByte v := rfl
@[simp] theorem State.setAF_a (v : Word) : (s.setAF v).a = hiByte v := rfl
@[simp] theorem State.setAF_flags (v : Word) : (s.setAF v).flags = Flags.ofByte (loByte v) := rfl
@[simp] theorem State.advance_pc (len : Nat) : (s.advance len).pc = s.pcPast len := rfl
@[simp] theorem State.advance_haltBug (len : Nat) : (s.advance len).haltBug = false := rfl
@[simp] theorem State.report_cycles (k : Nat) : (s.report k).cycles = k := rfl
@[simp] theorem State.dropWord_sp : s.dropWord.sp = s.sp + 2 := rfl
@[simp] theorem State.push16_sp (v : Word) : (s.push16 v).sp = s.sp - 1 - 1 := by simp [State.push16]
@[simp] theorem State.raiseIllegal_locked (op : Byte) (x : Word) : (s.raiseIllegal op x).locked = true := rfl
@[simp] theorem State.raiseIllegal_fault (op : Byte) (x : Word) : (s.raiseIllegal op x).fault = some { op := op, addr := x } := rfl

end Sys2Proof.Machine
end

