-- ==== Sys2Proof/Laws/Timer.lean ====
section
/-! SUPPORT. The timer: the countdown's closed form obeys the loop of spec/60_exceptions.md R350, and TimerAdvance keeps the ranges of spec/10_state.md
R48 and R52. -/

namespace Sys2Proof.Machine

theorem period_pos (sel : BitVec 2) : 0 < period sel := by unfold period; split <;> decide

theorem period_le (sel : BitVec 2) : period sel ≤ 1024 := by unfold period; split <;> decide

/-- A countdown above 0 neither expires nor is reloaded. -/
theorem expiries_of_pos (o : Overshoot) (c : Int) (p : Nat) (h : 0 < c) : expiries o c p = 0 := by
  simp [expiries, Int.not_le.2 h]

theorem reloaded_of_pos (o : Overshoot) (c : Int) (p : Nat) (h : 0 < c) : reloaded o c p = c := by
  simp [reloaded, Int.not_le.2 h]

/-- One turn of the loop under `carry`: one tick more than from the countdown with a period added. -/
theorem expiries_carry_step (c : Int) (p : Nat) (hp : 0 < p) (h : c ≤ 0) :
    expiries .carry c p = expiries .carry (c + p) p + 1 := by
  have hneg : -c = ((-c).toNat : Int) := by omega
  simp only [expiries, if_pos h]
  split
  · next h' =>
    have : (-c).toNat = (-(c + p)).toNat + p := by omega
    rw [this, Nat.add_div_right _ hp]
  · next h' =>
    have : (-c).toNat < p := by omega
    rw [Nat.div_eq_of_lt this]

theorem reloaded_carry_step (c : Int) (p : Nat) (hp : 0 < p) (h : c ≤ 0) :
    reloaded .carry c p = reloaded .carry (c + p) p := by
  by_cases h' : c + p ≤ 0
  · simp only [reloaded, if_pos h, if_pos h', expiries_carry_step c p hp h]
    push_cast
    ring
  · have h0 : 0 < c + (p : Int) := not_le.1 h'
    rw [reloaded_of_pos _ _ _ h0]
    simp only [reloaded, if_pos h, expiries_carry_step c p hp h, expiries_of_pos _ _ _ h0]
    simp

/-- The countdown left lies above 0, and is no greater than it was or than the period. -/
theorem reloaded_range (o : Overshoot) (c : Int) (p : Nat) (hp : 0 < p) :
    1 ≤ reloaded o c p ∧ (reloaded o c p ≤ c ∨ reloaded o c p ≤ p) := by
  by_cases h : c ≤ 0
  · cases o with
    | discard => simp only [reloaded, if_pos h]; omega
    | carry =>
      simp only [reloaded, expiries, if_pos h]
      have hd := Nat.div_add_mod (-c).toNat p
      have hm := Nat.mod_lt (-c).toNat hp
      have : ((((-c).toNat / p + 1 : Nat) : Int)) * (p : Int) = (p : Int) * (((-c).toNat / p : Nat) : Int) + p := by
        push_cast; ring
      rw [this]
      have hd' : (p : Int) * (((-c).toNat / p : Nat) : Int) + (((-c).toNat % p : Nat) : Int) = ((-c).toNat : Int) := by
        exact_mod_cast hd
      omega
  · rw [reloaded_of_pos _ _ _ (not_le.1 h)]
    omega

@[simp] theorem State.advanceDivider_divAcc (s : State) (k : Nat) : (s.advanceDivider k).divAcc = (s.divAcc + k) % 256 := rfl

theorem State.advanceCountdown_countdown (s : State) (k : Nat) :
    (s.advanceCountdown k).countdown =
      if timerEnabled s.tac then reloaded s.params.overshoot (s.countdown - k) (period (clockSelect s.tac)) else s.countdown := by
  unfold State.advanceCountdown
  split <;> simp

/-- TimerAdvance leaves `divAcc` below 256 and, from a countdown in range, the countdown in range. -/
theorem State.timerAdvance_range (s : State) (k : Nat) (h1 : 1 ≤ s.countdown) (h2 : s.countdown ≤ 1024) :
    (s.timerAdvance k).divAcc < 256 ∧ 1 ≤ (s.timerAdvance k).countdown ∧ (s.timerAdvance k).countdown ≤ 1024 := by
  refine ⟨?_, ?_⟩
  · simp only [State.timerAdvance, State.advanceCountdown_divAcc, State.advanceDivider_divAcc]
    omega
  · simp only [State.timerAdvance, State.advanceCountdown_countdown, State.advanceDivider_tac, State.advanceDivider_params,
      State.advanceDivider_countdown]
    by_cases he : timerEnabled s.tac = true
    · simp only [he, if_true]
      have hr := reloaded_range s.params.overshoot (s.countdown - k) (period (clockSelect s.tac)) (period_pos _)
      have hp := period_le (clockSelect s.tac)
      omega
    · simp only [he, if_false, Bool.false_eq_true]
      exact ⟨h1, h2⟩

end Sys2Proof.Machine
end

