-- ==== Sys2Proof/Laws/Ops.lean ====
section
/-! SUPPORT. The shared operations over registers and memory: what each can do, once. -/

namespace Sys2Proof.Machine

/-- The address of a block register (20_memory.md R72). -/
def BlockReg.address : BlockReg → Word
  | .div => 0xFF04
  | .tima => 0xFF05
  | .tma => 0xFF06
  | .tac => 0xFF07
  | .iflag => 0xFF0F
  | .ie => 0xFFFF

@[simp] theorem blockReg?_address (r : BlockReg) : blockReg? r.address = some r := by cases r <;> rfl

/-- The decoder answers a block register at that register's address alone. -/
theorem blockReg?_eq_some_iff (a : Word) (r : BlockReg) : blockReg? a = some r ↔ a = r.address := by
  constructor
  · intro h
    unfold blockReg? at h
    repeat' split at h
    all_goals first | (cases h; assumption) | cases h
  · rintro rfl
    simp

theorem State.getReg_setReg (s : State) (r q : Reg8) (v : Byte) :
    (s.setReg r v).getReg q = if q = r then v else s.getReg q := by
  cases r <;> cases q <;> rfl

theorem State.memRead_of_bus (s : State) (a : Word) (h : blockReg? a = none) : s.memRead a = busRead s.bus a := by
  simp [State.memRead, h]

theorem State.memWrite_of_bus (s : State) (a : Word) (v : Byte) (h : blockReg? a = none) :
    s.memWrite a v = { s with bus := busWrite s.bus a v } := by
  simp [State.memWrite, h]

theorem State.memWrite_of_block (s : State) (a : Word) (v : Byte) (r : BlockReg) (h : blockReg? a = some r) :
    s.memWrite a v = s.writeBlock r v := by
  simp [State.memWrite, h]

/-- A store to one block register leaves what the others read. -/
theorem State.readBlock_writeBlock_other (s : State) (r q : BlockReg) (v : Byte) (h : q ≠ r) :
    (s.writeBlock r v).readBlock q = s.readBlock q := by
  cases r <;> cases q <;> first | rfl | exact absurd rfl h

/-- A store to a block register leaves the bus. -/
theorem State.memWrite_bus_of_block (s : State) (a : Word) (v : Byte) (h : blockReg? a ≠ none) : (s.memWrite a v).bus = s.bus := by
  obtain ⟨r, hr⟩ := Option.ne_none_iff_exists'.1 h
  simp [State.memWrite_of_block s a v r hr]

/-- No store changes what another address reads, if BUS is FLAT_RAM or if that address or the one stored to is a block
register's. -/
theorem State.memRead_memWrite_other (s : State) (a x : Word) (v : Byte) (h : x ≠ a)
    (hs : s.bus.isFlatRam = true ∨ blockReg? x ≠ none ∨ blockReg? a ≠ none) : (s.memWrite a v).memRead x = s.memRead x := by
  cases ha : blockReg? a with
  | none =>
    rw [State.memWrite_of_bus s a v ha]
    cases hx : blockReg? x with
    | none =>
      have hf : s.bus.isFlatRam = true := by simpa [ha, hx] using hs
      simp [State.memRead, hx, busRead_busWrite _ _ _ _ hf, h]
    | some q => simp only [State.memRead, hx]; cases q <;> rfl
  | some r =>
    rw [State.memWrite_of_block s a v r ha]
    cases hx : blockReg? x with
    | none => simp [State.memRead, hx]
    | some q =>
      have : q ≠ r := by
        rintro rfl
        exact h (((blockReg?_eq_some_iff x q).1 hx).trans ((blockReg?_eq_some_iff a q).1 ha).symm)
      simp only [State.memRead, hx]
      exact State.readBlock_writeBlock_other s r q v this

/-- What memory reads depends on the block registers and the bus alone. -/
theorem State.memRead_congr (s t : State) (h1 : t.div = s.div) (h2 : t.tima = s.tima) (h3 : t.tma = s.tma) (h4 : t.tac = s.tac)
    (h5 : t.iflag = s.iflag) (h6 : t.ie = s.ie) (h7 : t.bus = s.bus) (x : Word) : t.memRead x = s.memRead x := by
  unfold State.memRead
  split
  · next r _ => cases r <;> simp [State.readBlock, *]
  · rw [h7]

/-- Every store keeps the canonical form of the memory. -/
theorem State.memWrite_wf (s : State) (a : Word) (v : Byte) (h : s.bus.wf = true) : (s.memWrite a v).bus.wf = true := by
  cases ha : blockReg? a with
  | none =>
    rw [State.memWrite_of_bus s a v ha]
    exact BusState.wf_busWrite _ _ _ h ha
  | some r =>
    rw [State.memWrite_of_block s a v r ha]
    simpa using h

/-- A store never changes which BUS the machine has. -/
@[simp] theorem State.memWrite_isFlatRam (s : State) (a : Word) (v : Byte) : (s.memWrite a v).bus.isFlatRam = s.bus.isFlatRam := by
  unfold State.memWrite
  split
  · simp
  · exact BusState.isFlatRam_busWrite _ _ _

theorem State.push16_wf (s : State) (v : Word) (h : s.bus.wf = true) : (s.push16 v).bus.wf = true :=
  State.memWrite_wf _ _ _ (State.memWrite_wf _ _ _ h)

theorem State.writeLoc_wf (s : State) (l : Loc) (v : Byte) (h : s.bus.wf = true) : (s.writeLoc l v).bus.wf = true := by
  cases l with
  | reg r => simpa [State.writeLoc] using h
  | atHL => exact State.memWrite_wf _ _ _ h

/-- A store leaves `divAcc` or clears it, and leaves the countdown or reloads it with a period. -/
theorem State.memWrite_divAcc (s : State) (a : Word) (v : Byte) : (s.memWrite a v).divAcc = s.divAcc ∨ (s.memWrite a v).divAcc = 0 := by
  unfold State.memWrite
  split
  · next r _ => cases r <;> simp [State.writeBlock]
  · simp

theorem State.memWrite_countdown (s : State) (a : Word) (v : Byte) :
    (s.memWrite a v).countdown = s.countdown ∨ ∃ sel, (s.memWrite a v).countdown = (period sel : Int) := by
  unfold State.memWrite
  split
  · next r _ =>
    cases r with
    | tac =>
      simp only [State.writeBlock]
      by_cases h : clockSelect (v.setWidth 3) ≠ clockSelect s.tac
      · exact .inr ⟨clockSelect (v.setWidth 3), by simp [h]⟩
      · exact .inl (by simp [h])
    | _ => exact .inl rfl
  · exact .inl rfl

/-- A store keeps the timer's counters in range. -/
theorem State.memWrite_range (s : State) (a : Word) (v : Byte) (h : s.divAcc < 256 ∧ 1 ≤ s.countdown ∧ s.countdown ≤ 1024) :
    (s.memWrite a v).divAcc < 256 ∧ 1 ≤ (s.memWrite a v).countdown ∧ (s.memWrite a v).countdown ≤ 1024 := by
  refine ⟨?_, ?_⟩
  · rcases State.memWrite_divAcc s a v with h' | h' <;> omega
  · rcases State.memWrite_countdown s a v with h' | ⟨sel, h'⟩ <;> rw [h']
    · exact h.2
    · have := period_pos sel
      have := period_le sel
      omega

theorem State.push16_range (s : State) (v : Word) (h : s.divAcc < 256 ∧ 1 ≤ s.countdown ∧ s.countdown ≤ 1024) :
    (s.push16 v).divAcc < 256 ∧ 1 ≤ (s.push16 v).countdown ∧ (s.push16 v).countdown ≤ 1024 :=
  State.memWrite_range _ _ _ (State.memWrite_range _ _ _ h)

/-- `lowestPending` answers the least source whose bit is set. -/
theorem lowestPending_eq_some_iff (p : BitVec 5) (i : Fin 5) :
    lowestPending p = some i ↔ p.getLsbD i.val = true ∧ ∀ j : Nat, j < i.val → p.getLsbD j = false := by
  revert p i
  decide

theorem lowestPending_eq_none_iff (p : BitVec 5) : lowestPending p = none ↔ p = 0 := by
  revert p
  decide

/-- What ends every legal instruction: a next state, with the count CYCLES gives in the state it started from. -/
theorem State.retire_eq {s t u : State} {key : Nat} {taken : Bool} {k : Nat} (h : t = u) (hp : u.params = s.params) :
    t.retire key taken k = .next (u.report (cyclesFor s.params key taken k)) := by
  subst h
  rw [State.retire, hp]

theorem State.memWrite_withSp (s : State) (x a : Word) (v : Byte) :
    { s with sp := x }.memWrite a v = { s.memWrite a v with sp := x } := by
  unfold State.memWrite
  split
  · next r _ => cases r <;> rfl
  · rfl

/-- Push16 as two stores and the new SP. -/
theorem State.push16_eq (s : State) (v : Word) :
    s.push16 v = { (s.memWrite (s.sp - 1) (hiByte v)).memWrite (s.sp - 2) (loByte v) with sp := s.sp - 2 } := by
  have : s.sp - 1 - 1 = s.sp - 2 := by bv_omega
  simp only [State.push16, State.memWrite_withSp, this]

end Sys2Proof.Machine
end

