-- ==== Sys2Proof/Laws/Step.lean ====
section
/-! SUPPORT. What a step can be (spec/60_exceptions.md R320), once, and what its kind says of the state; what a device's change of the bus
between steps can be. -/

namespace Sys2Proof.Machine

/-- The step inverted: a next state comes from one of the five kinds of step. -/
theorem step_cases {s t : State} (h : step s = .next t) :
    (s.phase = .locked ∧ t = s.lockedStep) ∨ (s.phase = .stopped ∧ t = s.stoppedStep) ∨
    (∃ i, s.phase = .dispatch i ∧ t = s.dispatchStep i) ∨ (s.phase = .idle ∧ t = s.idleStep) ∨
    (s.phase = .instruction ∧ ∃ u, exec s.wake.fetchInstr s.wake = .next u ∧ t = u.timerAdvance u.cycles) := by
  unfold step at h
  split at h
  · next hp => cases h; exact .inl ⟨hp, rfl⟩
  · next hp => cases h; exact .inr (.inl ⟨hp, rfl⟩)
  · next i hp => cases h; exact .inr (.inr (.inl ⟨i, hp, rfl⟩))
  · next hp => cases h; exact .inr (.inr (.inr (.inl ⟨hp, rfl⟩)))
  · next hp =>
    refine .inr (.inr (.inr (.inr ⟨hp, ?_⟩)))
    cases he : exec s.wake.fetchInstr s.wake with
    | next u => rw [he] at h; cases h; exact ⟨u, rfl, rfl⟩
    | fault r => rw [he] at h; cases h
    | refused r => rw [he] at h; cases h

theorem phase_locked (s : State) (h : s.locked = true) : s.phase = .locked := by simp [State.phase, h]

theorem phase_stopped (s : State) (h1 : s.locked = false) (h2 : s.stopped = true) : s.phase = .stopped := by
  simp [State.phase, h1, h2]

theorem phase_of_running (s : State) (h1 : s.locked = false) (h2 : s.stopped = false) :
    s.phase =
      match s.dispatchSource with
      | some i => .dispatch i
      | none => if s.wake.halted then .idle else .instruction := by
  unfold State.phase
  rw [h1, h2]
  cases s.dispatchSource <;> rfl

/-- A step that is no no-op of a Locked or Stopped core is of a core neither Locked nor Stopped. -/
theorem running_of_phase (s : State) (h1 : s.phase ≠ .locked) (h2 : s.phase ≠ .stopped) : s.locked = false ∧ s.stopped = false := by
  cases hl : s.locked with
  | true => exact absurd (phase_locked s hl) h1
  | false =>
    cases hs : s.stopped with
    | true => exact absurd (phase_stopped s hl hs) h2
    | false => exact ⟨rfl, rfl⟩

/-- An instruction is executed in a woken core only, and with no dispatch due. -/
theorem awake_of_instruction (s : State) (h : s.phase = .instruction) : s.wake.halted = false ∧ s.dispatchSource = none := by
  obtain ⟨h1, h2⟩ := running_of_phase s (by simp [h]) (by simp [h])
  rw [phase_of_running s h1 h2] at h
  split at h
  · cases h
  · next hd =>
    split at h
    · cases h
    · next hw => exact ⟨by simpa using hw, hd⟩

/-- A dispatch is of the lowest pending source, with IME = 1. -/
theorem source_of_dispatch (s : State) (i : Fin 5) (h : s.phase = .dispatch i) : s.ime = true ∧ lowestPending s.pending = some i := by
  obtain ⟨h1, h2⟩ := running_of_phase s (by simp [h]) (by simp [h])
  rw [phase_of_running s h1 h2] at h
  split at h
  · next j hd =>
    cases h
    unfold State.dispatchSource at hd
    split at hd
    · next hi => exact ⟨hi, hd⟩
    · cases hd
  · split at h <;> cases h

/-- A device's change of a byte of FLAT_RAM is a store there, with no step. -/
theorem State.busChange_eq_memWrite (s : State) (a : Word) (v : Byte) (h : blockReg? a = none) (hf : s.bus.isFlatRam = true) :
    s.busChange a v = s.memWrite a v := by
  rw [State.memWrite_of_bus s a v h]
  unfold State.busChange
  cases hb : s.bus with
  | flatRam mem => simp [h, busWrite]
  | external data => simp [hb, BusState.isFlatRam] at hf

theorem State.busChange_eq_self (s : State) (a : Word) (v : Byte) (h : blockReg? a ≠ none ∨ s.bus.isFlatRam = false) :
    s.busChange a v = s := by
  unfold State.busChange
  split
  · next ha hb => simp [ha, hb, BusState.isFlatRam] at h
  · rfl

theorem State.busEvent_eq (s : State) (data : List Nat) :
    s.busEvent data = if s.bus.isFlatRam then s else { s with bus := .external data } := by
  unfold State.busEvent
  cases hb : s.bus <;> simp [BusState.isFlatRam]

end Sys2Proof.Machine
end

