-- ==== Sys2Proof/Tests/Slice0.lean ====
section
/-! SUPPORT. Tests. Expected values are those of the spec: the words of 30_encoding.md and the opcode table, and the vectors of
spec/95_test_vectors.md, each from its zeroed core (section 0). The witnesses at the end meet the hypotheses of each statement that has some. -/

namespace Sys2Proof.Tests
open Sys2Proof.Machine Sys2Proof.Claims

/-! ## Well-formedness: one ill-formed string of bytes for each check -/

theorem test_wellFormed_refuses_empty : wellFormedCode [] = false := by decide
theorem test_wellFormed_refuses_truncated : wellFormedCode [0x06] = false ∧ wellFormedCode [0xC3, 0x50] = false := by decide
theorem test_wellFormed_refuses_too_long : wellFormedCode [0x00, 0x00] = false ∧ wellFormedCode [0xCB, 0x00, 0x00] = false := by decide
theorem test_wellFormed_accepts : wellFormedCode [0x00] = true ∧ wellFormedCode [0x10, 0x00] = true ∧ wellFormedCode [0xC3, 0x50, 0x01] = true := by
  decide
theorem test_decode_names_the_refusal : decode [] = .error .empty ∧ decode [0xCB] = .error .truncated := ⟨rfl, rfl⟩

/-! ## Decoding: every word of the table, 16 to a row, with 34 12 after the opcode byte where it takes more bytes -/

theorem test_decode_row_0 :
    ([0x00, 0x01, 0x02, 0x03, 0x04, 0x05, 0x06, 0x07, 0x08, 0x09, 0x0A, 0x0B, 0x0C, 0x0D, 0x0E, 0x0F] : List Byte).map (fun op => decodeInstr op 0x34 0x12) =
      [.nop, .ld_bc_nn 0x1234, .ld_atBC_a, .inc_bc, .inc_b, .dec_b, .ld_b_n 0x34, .rlca, .ld_atNN_sp 0x1234, .add_hl_bc, .ld_a_atBC,
       .dec_bc, .inc_c, .dec_c, .ld_c_n 0x34, .rrca] := rfl

theorem test_decode_row_1 :
    ([0x10, 0x11, 0x12, 0x13, 0x14, 0x15, 0x16, 0x17, 0x18, 0x19, 0x1A, 0x1B, 0x1C, 0x1D, 0x1E, 0x1F] : List Byte).map (fun op => decodeInstr op 0x34 0x12) =
      [.stop 0x34, .ld_de_nn 0x1234, .ld_atDE_a, .inc_de, .inc_d, .dec_d, .ld_d_n 0x34, .rla, .jr_e 0x34, .add_hl_de, .ld_a_atDE, .dec_de,
       .inc_e, .dec_e, .ld_e_n 0x34, .rra] := rfl

theorem test_decode_row_2 :
    ([0x20, 0x21, 0x22, 0x23, 0x24, 0x25, 0x26, 0x27, 0x28, 0x29, 0x2A, 0x2B, 0x2C, 0x2D, 0x2E, 0x2F] : List Byte).map (fun op => decodeInstr op 0x34 0x12) =
      [.jr_nz_e 0x34, .ld_hl_nn 0x1234, .ld_atHLI_a, .inc_hl, .inc_h, .dec_h, .ld_h_n 0x34, .daa, .jr_z_e 0x34, .add_hl_hl, .ld_a_atHLI,
       .dec_hl, .inc_l, .dec_l, .ld_l_n 0x34, .cpl] := rfl

theorem test_decode_row_3 :
    ([0x30, 0x31, 0x32, 0x33, 0x34, 0x35, 0x36, 0x37, 0x38, 0x39, 0x3A, 0x3B, 0x3C, 0x3D, 0x3E, 0x3F] : List Byte).map (fun op => decodeInstr op 0x34 0x12) =
      [.jr_nc_e 0x34, .ld_sp_nn 0x1234, .ld_atHLD_a, .inc_sp, .inc_atHL, .dec_atHL, .ld_atHL_n 0x34, .scf, .jr_c_e 0x34, .add_hl_sp,
       .ld_a_atHLD, .dec_sp, .inc_a, .dec_a, .ld_a_n 0x34, .ccf] := rfl

theorem test_decode_row_4 :
    ([0x40, 0x41, 0x42, 0x43, 0x44, 0x45, 0x46, 0x47, 0x48, 0x49, 0x4A, 0x4B, 0x4C, 0x4D, 0x4E, 0x4F] : List Byte).map (fun op => decodeInstr op 0x34 0x12) =
      [.ld_b_b, .ld_b_c, .ld_b_d, .ld_b_e, .ld_b_h, .ld_b_l, .ld_b_atHL, .ld_b_a, .ld_c_b, .ld_c_c, .ld_c_d, .ld_c_e, .ld_c_h, .ld_c_l,
       .ld_c_atHL, .ld_c_a] := rfl

theorem test_decode_row_5 :
    ([0x50, 0x51, 0x52, 0x53, 0x54, 0x55, 0x56, 0x57, 0x58, 0x59, 0x5A, 0x5B, 0x5C, 0x5D, 0x5E, 0x5F] : List Byte).map (fun op => decodeInstr op 0x34 0x12) =
      [.ld_d_b, .ld_d_c, .ld_d_d, .ld_d_e, .ld_d_h, .ld_d_l, .ld_d_atHL, .ld_d_a, .ld_e_b, .ld_e_c, .ld_e_d, .ld_e_e, .ld_e_h, .ld_e_l,
       .ld_e_atHL, .ld_e_a] := rfl

theorem test_decode_row_6 :
    ([0x60, 0x61, 0x62, 0x63, 0x64, 0x65, 0x66, 0x67, 0x68, 0x69, 0x6A, 0x6B, 0x6C, 0x6D, 0x6E, 0x6F] : List Byte).map (fun op => decodeInstr op 0x34 0x12) =
      [.ld_h_b, .ld_h_c, .ld_h_d, .ld_h_e, .ld_h_h, .ld_h_l, .ld_h_atHL, .ld_h_a, .ld_l_b, .ld_l_c, .ld_l_d, .ld_l_e, .ld_l_h, .ld_l_l,
       .ld_l_atHL, .ld_l_a] := rfl

theorem test_decode_row_7 :
    ([0x70, 0x71, 0x72, 0x73, 0x74, 0x75, 0x76, 0x77, 0x78, 0x79, 0x7A, 0x7B, 0x7C, 0x7D, 0x7E, 0x7F] : List Byte).map (fun op => decodeInstr op 0x34 0x12) =
      [.ld_atHL_b, .ld_atHL_c, .ld_atHL_d, .ld_atHL_e, .ld_atHL_h, .ld_atHL_l, .halt, .ld_atHL_a, .ld_a_b, .ld_a_c, .ld_a_d, .ld_a_e,
       .ld_a_h, .ld_a_l, .ld_a_atHL, .ld_a_a] := rfl

theorem test_decode_row_8 :
    ([0x80, 0x81, 0x82, 0x83, 0x84, 0x85, 0x86, 0x87, 0x88, 0x89, 0x8A, 0x8B, 0x8C, 0x8D, 0x8E, 0x8F] : List Byte).map (fun op => decodeInstr op 0x34 0x12) =
      [.add_a_b, .add_a_c, .add_a_d, .add_a_e, .add_a_h, .add_a_l, .add_a_atHL, .add_a_a, .adc_a_b, .adc_a_c, .adc_a_d, .adc_a_e,
       .adc_a_h, .adc_a_l, .adc_a_atHL, .adc_a_a] := rfl

theorem test_decode_row_9 :
    ([0x90, 0x91, 0x92, 0x93, 0x94, 0x95, 0x96, 0x97, 0x98, 0x99, 0x9A, 0x9B, 0x9C, 0x9D, 0x9E, 0x9F] : List Byte).map (fun op => decodeInstr op 0x34 0x12) =
      [.sub_b, .sub_c, .sub_d, .sub_e, .sub_h, .sub_l, .sub_atHL, .sub_a, .sbc_a_b, .sbc_a_c, .sbc_a_d, .sbc_a_e, .sbc_a_h, .sbc_a_l,
       .sbc_a_atHL, .sbc_a_a] := rfl

theorem test_decode_row_A :
    ([0xA0, 0xA1, 0xA2, 0xA3, 0xA4, 0xA5, 0xA6, 0xA7, 0xA8, 0xA9, 0xAA, 0xAB, 0xAC, 0xAD, 0xAE, 0xAF] : List Byte).map (fun op => decodeInstr op 0x34 0x12) =
      [.and_b, .and_c, .and_d, .and_e, .and_h, .and_l, .and_atHL, .and_a, .xor_b, .xor_c, .xor_d, .xor_e, .xor_h, .xor_l, .xor_atHL,
       .xor_a] := rfl

theorem test_decode_row_B :
    ([0xB0, 0xB1, 0xB2, 0xB3, 0xB4, 0xB5, 0xB6, 0xB7, 0xB8, 0xB9, 0xBA, 0xBB, 0xBC, 0xBD, 0xBE, 0xBF] : List Byte).map (fun op => decodeInstr op 0x34 0x12) =
      [.or_b, .or_c, .or_d, .or_e, .or_h, .or_l, .or_atHL, .or_a, .cp_b, .cp_c, .cp_d, .cp_e, .cp_h, .cp_l, .cp_atHL, .cp_a] := rfl

theorem test_decode_row_C :
    ([0xC0, 0xC1, 0xC2, 0xC3, 0xC4, 0xC5, 0xC6, 0xC7, 0xC8, 0xC9, 0xCA, 0xCC, 0xCD, 0xCE, 0xCF] : List Byte).map (fun op => decodeInstr op 0x34 0x12) =
      [.ret_nz, .pop_bc, .jp_nz_nn 0x1234, .jp_nn 0x1234, .call_nz_nn 0x1234, .push_bc, .add_a_n 0x34, .rst_00h, .ret_z, .ret,
       .jp_z_nn 0x1234, .call_z_nn 0x1234, .call_nn 0x1234, .adc_a_n 0x34, .rst_08h] := rfl

theorem test_decode_row_D :
    ([0xD0, 0xD1, 0xD2, 0xD3, 0xD4, 0xD5, 0xD6, 0xD7, 0xD8, 0xD9, 0xDA, 0xDB, 0xDC, 0xDD, 0xDE, 0xDF] : List Byte).map (fun op => decodeInstr op 0x34 0x12) =
      [.ret_nc, .pop_de, .jp_nc_nn 0x1234, .illegal_d3, .call_nc_nn 0x1234, .push_de, .sub_n 0x34, .rst_10h, .ret_c, .reti,
       .jp_c_nn 0x1234, .illegal_db, .call_c_nn 0x1234, .illegal_dd, .sbc_a_n 0x34, .rst_18h] := rfl

theorem test_decode_row_E :
    ([0xE0, 0xE1, 0xE2, 0xE3, 0xE4, 0xE5, 0xE6, 0xE7, 0xE8, 0xE9, 0xEA, 0xEB, 0xEC, 0xED, 0xEE, 0xEF] : List Byte).map (fun op => decodeInstr op 0x34 0x12) =
      [.ldh_atN_a 0x34, .pop_hl, .ld_atC_a, .illegal_e3, .illegal_e4, .push_hl, .and_n 0x34, .rst_20h, .add_sp_e 0x34, .jp_hl,
       .ld_atNN_a 0x1234, .illegal_eb, .illegal_ec, .illegal_ed, .xor_n 0x34, .rst_28h] := rfl

theorem test_decode_row_F :
    ([0xF0, 0xF1, 0xF2, 0xF3, 0xF4, 0xF5, 0xF6, 0xF7, 0xF8, 0xF9, 0xFA, 0xFB, 0xFC, 0xFD, 0xFE, 0xFF] : List Byte).map (fun op => decodeInstr op 0x34 0x12) =
      [.ldh_a_atN 0x34, .pop_af, .ld_a_atC, .di, .illegal_f4, .push_af, .or_n 0x34, .rst_30h, .ld_hl_sp_e 0x34, .ld_sp_hl,
       .ld_a_atNN 0x1234, .ei, .illegal_fc, .illegal_fd, .cp_n 0x34, .rst_38h] := rfl

theorem test_decode_cb_row_0 :
    ([0x00, 0x01, 0x02, 0x03, 0x04, 0x05, 0x06, 0x07, 0x08, 0x09, 0x0A, 0x0B, 0x0C, 0x0D, 0x0E, 0x0F] : List Byte).map (fun n => decodeInstr 0xCB n 0) =
      [.rlc_b, .rlc_c, .rlc_d, .rlc_e, .rlc_h, .rlc_l, .rlc_atHL, .rlc_a, .rrc_b, .rrc_c, .rrc_d, .rrc_e, .rrc_h, .rrc_l, .rrc_atHL,
       .rrc_a] := rfl

theorem test_decode_cb_row_1 :
    ([0x10, 0x11, 0x12, 0x13, 0x14, 0x15, 0x16, 0x17, 0x18, 0x19, 0x1A, 0x1B, 0x1C, 0x1D, 0x1E, 0x1F] : List Byte).map (fun n => decodeInstr 0xCB n 0) =
      [.rl_b, .rl_c, .rl_d, .rl_e, .rl_h, .rl_l, .rl_atHL, .rl_a, .rr_b, .rr_c, .rr_d, .rr_e, .rr_h, .rr_l, .rr_atHL, .rr_a] := rfl

theorem test_decode_cb_row_2 :
    ([0x20, 0x21, 0x22, 0x23, 0x24, 0x25, 0x26, 0x27, 0x28, 0x29, 0x2A, 0x2B, 0x2C, 0x2D, 0x2E, 0x2F] : List Byte).map (fun n => decodeInstr 0xCB n 0) =
      [.sla_b, .sla_c, .sla_d, .sla_e, .sla_h, .sla_l, .sla_atHL, .sla_a, .sra_b, .sra_c, .sra_d, .sra_e, .sra_h, .sra_l, .sra_atHL,
       .sra_a] := rfl

theorem test_decode_cb_row_3 :
    ([0x30, 0x31, 0x32, 0x33, 0x34, 0x35, 0x36, 0x37, 0x38, 0x39, 0x3A, 0x3B, 0x3C, 0x3D, 0x3E, 0x3F] : List Byte).map (fun n => decodeInstr 0xCB n 0) =
      [.swap_b, .swap_c, .swap_d, .swap_e, .swap_h, .swap_l, .swap_atHL, .swap_a, .srl_b, .srl_c, .srl_d, .srl_e, .srl_h, .srl_l,
       .srl_atHL, .srl_a] := rfl

theorem test_decode_cb_row_4 :
    ([0x40, 0x41, 0x42, 0x43, 0x44, 0x45, 0x46, 0x47, 0x48, 0x49, 0x4A, 0x4B, 0x4C, 0x4D, 0x4E, 0x4F] : List Byte).map (fun n => decodeInstr 0xCB n 0) =
      [.bit_0_b, .bit_0_c, .bit_0_d, .bit_0_e, .bit_0_h, .bit_0_l, .bit_0_atHL, .bit_0_a, .bit_1_b, .bit_1_c, .bit_1_d, .bit_1_e,
       .bit_1_h, .bit_1_l, .bit_1_atHL, .bit_1_a] := rfl

theorem test_decode_cb_row_5 :
    ([0x50, 0x51, 0x52, 0x53, 0x54, 0x55, 0x56, 0x57, 0x58, 0x59, 0x5A, 0x5B, 0x5C, 0x5D, 0x5E, 0x5F] : List Byte).map (fun n => decodeInstr 0xCB n 0) =
      [.bit_2_b, .bit_2_c, .bit_2_d, .bit_2_e, .bit_2_h, .bit_2_l, .bit_2_atHL, .bit_2_a, .bit_3_b, .bit_3_c, .bit_3_d, .bit_3_e,
       .bit_3_h, .bit_3_l, .bit_3_atHL, .bit_3_a] := rfl

theorem test_decode_cb_row_6 :
    ([0x60, 0x61, 0x62, 0x63, 0x64, 0x65, 0x66, 0x67, 0x68, 0x69, 0x6A, 0x6B, 0x6C, 0x6D, 0x6E, 0x6F] : List Byte).map (fun n => decodeInstr 0xCB n 0) =
      [.bit_4_b, .bit_4_c, .bit_4_d, .bit_4_e, .bit_4_h, .bit_4_l, .bit_4_atHL, .bit_4_a, .bit_5_b, .bit_5_c, .bit_5_d, .bit_5_e,
       .bit_5_h, .bit_5_l, .bit_5_atHL, .bit_5_a] := rfl

theorem test_decode_cb_row_7 :
    ([0x70, 0x71, 0x72, 0x73, 0x74, 0x75, 0x76, 0x77, 0x78, 0x79, 0x7A, 0x7B, 0x7C, 0x7D, 0x7E, 0x7F] : List Byte).map (fun n => decodeInstr 0xCB n 0) =
      [.bit_6_b, .bit_6_c, .bit_6_d, .bit_6_e, .bit_6_h, .bit_6_l, .bit_6_atHL, .bit_6_a, .bit_7_b, .bit_7_c, .bit_7_d, .bit_7_e,
       .bit_7_h, .bit_7_l, .bit_7_atHL, .bit_7_a] := rfl

theorem test_decode_cb_row_8 :
    ([0x80, 0x81, 0x82, 0x83, 0x84, 0x85, 0x86, 0x87, 0x88, 0x89, 0x8A, 0x8B, 0x8C, 0x8D, 0x8E, 0x8F] : List Byte).map (fun n => decodeInstr 0xCB n 0) =
      [.res_0_b, .res_0_c, .res_0_d, .res_0_e, .res_0_h, .res_0_l, .res_0_atHL, .res_0_a, .res_1_b, .res_1_c, .res_1_d, .res_1_e,
       .res_1_h, .res_1_l, .res_1_atHL, .res_1_a] := rfl

theorem test_decode_cb_row_9 :
    ([0x90, 0x91, 0x92, 0x93, 0x94, 0x95, 0x96, 0x97, 0x98, 0x99, 0x9A, 0x9B, 0x9C, 0x9D, 0x9E, 0x9F] : List Byte).map (fun n => decodeInstr 0xCB n 0) =
      [.res_2_b, .res_2_c, .res_2_d, .res_2_e, .res_2_h, .res_2_l, .res_2_atHL, .res_2_a, .res_3_b, .res_3_c, .res_3_d, .res_3_e,
       .res_3_h, .res_3_l, .res_3_atHL, .res_3_a] := rfl

theorem test_decode_cb_row_A :
    ([0xA0, 0xA1, 0xA2, 0xA3, 0xA4, 0xA5, 0xA6, 0xA7, 0xA8, 0xA9, 0xAA, 0xAB, 0xAC, 0xAD, 0xAE, 0xAF] : List Byte).map (fun n => decodeInstr 0xCB n 0) =
      [.res_4_b, .res_4_c, .res_4_d, .res_4_e, .res_4_h, .res_4_l, .res_4_atHL, .res_4_a, .res_5_b, .res_5_c, .res_5_d, .res_5_e,
       .res_5_h, .res_5_l, .res_5_atHL, .res_5_a] := rfl

theorem test_decode_cb_row_B :
    ([0xB0, 0xB1, 0xB2, 0xB3, 0xB4, 0xB5, 0xB6, 0xB7, 0xB8, 0xB9, 0xBA, 0xBB, 0xBC, 0xBD, 0xBE, 0xBF] : List Byte).map (fun n => decodeInstr 0xCB n 0) =
      [.res_6_b, .res_6_c, .res_6_d, .res_6_e, .res_6_h, .res_6_l, .res_6_atHL, .res_6_a, .res_7_b, .res_7_c, .res_7_d, .res_7_e,
       .res_7_h, .res_7_l, .res_7_atHL, .res_7_a] := rfl

theorem test_decode_cb_row_C :
    ([0xC0, 0xC1, 0xC2, 0xC3, 0xC4, 0xC5, 0xC6, 0xC7, 0xC8, 0xC9, 0xCA, 0xCB, 0xCC, 0xCD, 0xCE, 0xCF] : List Byte).map (fun n => decodeInstr 0xCB n 0) =
      [.set_0_b, .set_0_c, .set_0_d, .set_0_e, .set_0_h, .set_0_l, .set_0_atHL, .set_0_a, .set_1_b, .set_1_c, .set_1_d, .set_1_e,
       .set_1_h, .set_1_l, .set_1_atHL, .set_1_a] := rfl

theorem test_decode_cb_row_D :
    ([0xD0, 0xD1, 0xD2, 0xD3, 0xD4, 0xD5, 0xD6, 0xD7, 0xD8, 0xD9, 0xDA, 0xDB, 0xDC, 0xDD, 0xDE, 0xDF] : List Byte).map (fun n => decodeInstr 0xCB n 0) =
      [.set_2_b, .set_2_c, .set_2_d, .set_2_e, .set_2_h, .set_2_l, .set_2_atHL, .set_2_a, .set_3_b, .set_3_c, .set_3_d, .set_3_e,
       .set_3_h, .set_3_l, .set_3_atHL, .set_3_a] := rfl

theorem test_decode_cb_row_E :
    ([0xE0, 0xE1, 0xE2, 0xE3, 0xE4, 0xE5, 0xE6, 0xE7, 0xE8, 0xE9, 0xEA, 0xEB, 0xEC, 0xED, 0xEE, 0xEF] : List Byte).map (fun n => decodeInstr 0xCB n 0) =
      [.set_4_b, .set_4_c, .set_4_d, .set_4_e, .set_4_h, .set_4_l, .set_4_atHL, .set_4_a, .set_5_b, .set_5_c, .set_5_d, .set_5_e,
       .set_5_h, .set_5_l, .set_5_atHL, .set_5_a] := rfl

theorem test_decode_cb_row_F :
    ([0xF0, 0xF1, 0xF2, 0xF3, 0xF4, 0xF5, 0xF6, 0xF7, 0xF8, 0xF9, 0xFA, 0xFB, 0xFC, 0xFD, 0xFE, 0xFF] : List Byte).map (fun n => decodeInstr 0xCB n 0) =
      [.set_6_b, .set_6_c, .set_6_d, .set_6_e, .set_6_h, .set_6_l, .set_6_atHL, .set_6_a, .set_7_b, .set_7_c, .set_7_d, .set_7_e,
       .set_7_h, .set_7_l, .set_7_atHL, .set_7_a] := rfl

/-- The numbering of the opcode table: the first byte in bits 7 to 0, a CB row as the value 0xCBxx, immediates above or absent. -/
theorem test_decodeTableWord :
    decodeTableWord 8 0x04 = some .inc_b ∧ decodeTableWord 8 0xD3 = some .illegal_d3 ∧ decodeTableWord 16 0xCBFF = some .set_7_a ∧
    decodeTableWord 8 0xC3 = some (.jp_nn 0) ∧ decodeTableWord 24 0x1234C3 = some (.jp_nn 0x1234) := by
  decide

/-! ## One step on a small state -/

/-- The zeroed core of 95_test_vectors.md section 0. -/
def zeroed : State :=
  { a := 0, flags := ⟨false, false, false, false⟩, b := 0, c := 0, d := 0, e := 0, h := 0, l := 0, sp := 0xFFFE, pc := 0x0100
    ime := false, halted := false, haltBug := false, stopped := false, locked := false, fault := none
    ie := 0, iflag := 0, div := 0, divAcc := 0, tima := 0, tma := 0, tac := 0, countdown := 1024
    bus := .flatRam [], cycles := 0, params := Params.standard }

/-- One step from `s` with `code` at its PC answers a state `p` holds of. -/
def stepShows (code : List Byte) (s : State) (p : State → Bool) : Bool :=
  match step (s.placeBytes s.pc code) with
  | .next t => p t
  | _ => false

/-- LD A,A: rule R141. -/
theorem test_LD_A_A :
    stepShows [0x7F] { zeroed with a := 0x33, flags := ⟨true, true, true, true⟩ } (fun t =>
      t.a == 0x33 && t.flags == ⟨true, true, true, true⟩ && t.pc == 0x0101 && t.cycles == 4) = true := by
  decide

/-- LD (HL),H: rule R144. -/
theorem test_LD_atHL_H :
    stepShows [0x74] { zeroed with h := 0xC0, l := 0x12 } (fun t =>
      t.memRead 0xC012 == 0xC0 && t.pc == 0x0101 && t.cycles == 8) = true := by
  decide

/-- LD (HL),n: rule R145; 20_memory.md rule R74. -/
theorem test_LD_atHL_n :
    stepShows [0x36, 0x42] { zeroed with h := 0xFF, l := 0x05 } (fun t =>
      t.tima == 0x42 && t.pc == 0x0102 && t.cycles == 12) = true := by
  decide

/-- LD A,(nn): rule R150; 20_memory.md rule R74. -/
theorem test_LD_A_atnn :
    stepShows [0xFA, 0x07, 0xFF] { zeroed with tac := 0x5 } (fun t =>
      t.a == 0xFD && t.pc == 0x0103 && t.cycles == 16) = true := by
  decide

/-- LD (nn),A: rule R151; 10_state.md rule R46. -/
theorem test_LD_atnn_A :
    stepShows [0xEA, 0x0F, 0xFF] { zeroed with a := 0xFF } (fun t =>
      t.iflag == 0x1F && t.memRead 0xFF0F == 0xFF && t.pc == 0x0103 && t.cycles == 16) = true := by
  decide

/-- LDH A,(n): rule R152. -/
theorem test_LDH_A_atn :
    stepShows [0xF0, 0x04] { zeroed with div := 0x5C } (fun t =>
      t.a == 0x5C && t.pc == 0x0102 && t.cycles == 12) = true := by
  decide

/-- LDH (n),A: rule R153; 60_exceptions.md rule R354. -/
theorem test_LDH_atn_A :
    stepShows [0xE0, 0x04] { zeroed with a := 0x77, div := 0x5C, divAcc := 200 } (fun t =>
      t.div == 0x00 && t.divAcc == 12 && t.pc == 0x0102 && t.cycles == 12) = true := by
  decide

/-- LD (C),A: rule R155. -/
theorem test_LD_atC_A :
    stepShows [0xE2] { zeroed with a := 0x3C, c := 0xFF } (fun t =>
      t.ie == 0x3C && t.pc == 0x0101 && t.cycles == 8) = true := by
  decide

/-- LD A,(HL+): rule R156; 20_memory.md rule R76. -/
theorem test_LD_A_atHLI :
    stepShows [0x2A] { zeroed with h := 0xFF, l := 0xFF, ie := 0x1F } (fun t =>
      t.a == 0x1F && t.h == 0x00 && t.l == 0x00 && t.pc == 0x0101 && t.cycles == 8) = true := by
  decide

/-- LD A,(HL-): rule R157. -/
theorem test_LD_A_atHLD :
    stepShows [0x3A] { zeroed with h := 0x00, l := 0x00, bus := .flatRam [(0x0000, 0x31)] } (fun t =>
      t.a == 0x31 && t.h == 0xFF && t.l == 0xFF && t.pc == 0x0101 && t.cycles == 8) = true := by
  decide

/-- LD (HL+),A: rule R158. -/
theorem test_LD_atHLI_A :
    stepShows [0x22] { zeroed with a := 0x56, h := 0xC0, l := 0xFF } (fun t =>
      t.memRead 0xC0FF == 0x56 && t.h == 0xC1 && t.l == 0x00 && t.pc == 0x0101 && t.cycles == 8) = true := by
  decide

/-- LD (HL-),A: rule R159. -/
theorem test_LD_atHLD_A :
    stepShows [0x32] { zeroed with a := 0x56, h := 0xC1, l := 0x00 } (fun t =>
      t.memRead 0xC100 == 0x56 && t.h == 0xC0 && t.l == 0xFF && t.pc == 0x0101 && t.cycles == 8) = true := by
  decide

/-- LD HL,nn: rule R162. -/
theorem test_LD_HL_nn :
    stepShows [0x21, 0x34, 0x12] zeroed (fun t =>
      t.h == 0x12 && t.l == 0x34 && t.pc == 0x0103 && t.cycles == 12) = true := by
  decide

/-- LD (nn),SP wrap: rule R163; 20_memory.md rule R76. -/
theorem test_LD_atnn_SP_wrap :
    stepShows [0x08, 0xFF, 0xFF] { zeroed with sp := 0xABCD } (fun t =>
      t.ie == 0xCD && t.memRead 0x0000 == 0xAB && t.pc == 0x0103 && t.cycles == 20) = true := by
  decide

/-- PUSH AF: rule R165. -/
theorem test_PUSH_AF :
    stepShows [0xF5] { zeroed with a := 0x12, flags := ⟨true, false, true, true⟩ } (fun t =>
      t.sp == 0xFFFC && t.memRead 0xFFFD == 0x12 && t.memRead 0xFFFC == 0xB0 && t.pc == 0x0101 && t.cycles == 16) = true := by
  decide

/-- POP AF low nibble: rule R167. -/
theorem test_POP_AF_low_nibble :
    stepShows [0xF1] { zeroed with sp := 0xC000, bus := .flatRam [(0xC000, 0xFF), (0xC001, 0x12)] } (fun t =>
      t.a == 0x12 && t.flags == ⟨true, true, true, true⟩ && t.sp == 0xC002 && t.pc == 0x0101 && t.cycles == 12) = true := by
  decide

/-- PUSH SP wrap: rule R165; 20_memory.md rule R76. -/
theorem test_PUSH_SP_wrap :
    stepShows [0xC5] { zeroed with sp := 0x0001, b := 0xAB, c := 0x12 } (fun t =>
      t.sp == 0xFFFF && t.memRead 0x0000 == 0xAB && t.ie == 0x12 && t.pc == 0x0101 && t.cycles == 16) = true := by
  decide

/-- ADC A,(HL): rule R186. -/
theorem test_ADC_A_atHL :
    stepShows [0x8E] { zeroed with a := 0xE1, h := 0xC0, l := 0x00, flags := ⟨false, false, false, true⟩, bus := .flatRam [(0xC000, 0x1E)] } (fun t =>
      t.a == 0x00 && t.flags == ⟨true, false, true, true⟩ && t.pc == 0x0101 && t.cycles == 8) = true := by
  decide

/-- SBC A,(HL): rule R192. -/
theorem test_SBC_A_atHL :
    stepShows [0x9E] { zeroed with a := 0x3B, h := 0xC0, l := 0x00, flags := ⟨false, false, false, true⟩, bus := .flatRam [(0xC000, 0x4F)] } (fun t =>
      t.a == 0xEB && t.flags == ⟨false, true, true, true⟩ && t.pc == 0x0101 && t.cycles == 8) = true := by
  decide

/-- SBC 0x00-0xFF-1: rule R193. -/
theorem test_SBC_0x00_minus_0xFF_minus_1 :
    stepShows [0xDE, 0xFF] { zeroed with a := 0x00, flags := ⟨false, false, false, true⟩ } (fun t =>
      t.a == 0x00 && t.flags == ⟨true, true, true, true⟩ && t.pc == 0x0102 && t.cycles == 8) = true := by
  decide

/-- SUB (HL): rule R189. -/
theorem test_SUB_atHL :
    stepShows [0x96] { zeroed with a := 0x3E, h := 0xC0, l := 0x00, bus := .flatRam [(0xC000, 0x40)] } (fun t =>
      t.a == 0xFE && t.flags == ⟨false, true, false, true⟩ && t.pc == 0x0101 && t.cycles == 8) = true := by
  decide

/-- AND (HL): rule R195. -/
theorem test_AND_atHL :
    stepShows [0xA6] { zeroed with a := 0x5A, h := 0xC0, l := 0x00 } (fun t =>
      t.a == 0x00 && t.flags == ⟨true, false, true, false⟩ && t.pc == 0x0101 && t.cycles == 8) = true := by
  decide

/-- XOR (HL): rule R198. -/
theorem test_XOR_atHL :
    stepShows [0xAE] { zeroed with a := 0xFF, h := 0xC0, l := 0x00, bus := .flatRam [(0xC000, 0x8A)] } (fun t =>
      t.a == 0x75 && t.flags == ⟨false, false, false, false⟩ && t.pc == 0x0101 && t.cycles == 8) = true := by
  decide

/-- OR (HL): rule R201. -/
theorem test_OR_atHL :
    stepShows [0xB6] { zeroed with a := 0x00, h := 0xC0, l := 0x00 } (fun t =>
      t.a == 0x00 && t.flags == ⟨true, false, false, false⟩ && t.pc == 0x0101 && t.cycles == 8) = true := by
  decide

/-- CP n (s8 scenario): rule R205. -/
theorem test_CP_n :
    stepShows [0xFE, 0xFF] { zeroed with a := 0x3C } (fun t =>
      t.a == 0x3C && t.flags == ⟨false, true, true, true⟩ && t.pc == 0x0102 && t.cycles == 8) = true := by
  decide

/-- INC A: rule R206. -/
theorem test_INC_A :
    stepShows [0x3C] { zeroed with a := 0xFF, flags := ⟨false, false, false, true⟩ } (fun t =>
      t.a == 0x00 && t.flags == ⟨true, false, true, true⟩ && t.pc == 0x0101 && t.cycles == 4) = true := by
  decide

/-- DEC C borrow: rule R208. -/
theorem test_DEC_C_borrow :
    stepShows [0x0D] { zeroed with c := 0x00, flags := ⟨false, false, false, true⟩ } (fun t =>
      t.c == 0xFF && t.flags == ⟨false, true, true, true⟩ && t.pc == 0x0101 && t.cycles == 4) = true := by
  decide

/-- INC (HL): rule R207. -/
theorem test_INC_atHL :
    stepShows [0x34] { zeroed with h := 0xC0, l := 0x00, bus := .flatRam [(0xC000, 0x50)] } (fun t =>
      t.memRead 0xC000 == 0x51 && t.flags == ⟨false, false, false, false⟩ && t.pc == 0x0101 && t.cycles == 12) = true := by
  decide

/-- DEC (HL): rule R209. -/
theorem test_DEC_atHL :
    stepShows [0x35] { zeroed with h := 0xC0, l := 0x00 } (fun t =>
      t.memRead 0xC000 == 0xFF && t.flags == ⟨false, true, true, false⟩ && t.pc == 0x0101 && t.cycles == 12) = true := by
  decide

/-- DAA 0x9A: rule R210. -/
theorem test_DAA_0x9A :
    stepShows [0x27] { zeroed with a := 0x9A } (fun t =>
      t.a == 0x00 && t.flags == ⟨true, false, false, true⟩ && t.pc == 0x0101 && t.cycles == 4) = true := by
  decide

/-- CPL: rule R211. -/
theorem test_CPL :
    stepShows [0x2F] { zeroed with a := 0x35 } (fun t =>
      t.a == 0xCA && t.flags == ⟨false, true, true, false⟩ && t.pc == 0x0101 && t.cycles == 4) = true := by
  decide

/-- SCF: rule R212. -/
theorem test_SCF :
    stepShows [0x37] { zeroed with flags := ⟨true, true, true, false⟩ } (fun t =>
      t.flags == ⟨true, false, false, true⟩ && t.pc == 0x0101 && t.cycles == 4) = true := by
  decide

/-- CCF: rule R213. -/
theorem test_CCF :
    stepShows [0x3F] { zeroed with flags := ⟨true, true, true, true⟩ } (fun t =>
      t.flags == ⟨true, false, false, false⟩ && t.pc == 0x0101 && t.cycles == 4) = true := by
  decide

/-- ADD HL,HL: rule R220. -/
theorem test_ADD_HL_HL :
    stepShows [0x29] { zeroed with h := 0x8A, l := 0x23 } (fun t =>
      t.h == 0x14 && t.l == 0x46 && t.flags == ⟨false, false, true, true⟩ && t.pc == 0x0101 && t.cycles == 8) = true := by
  decide

/-- ADD HL,SP: rule R220. -/
theorem test_ADD_HL_SP :
    stepShows [0x39] { zeroed with h := 0x0F, l := 0xFF, sp := 0x0001, flags := ⟨true, false, false, false⟩ } (fun t =>
      t.h == 0x10 && t.l == 0x00 && t.flags == ⟨true, false, true, false⟩ && t.pc == 0x0101 && t.cycles == 8) = true := by
  decide

/-- INC SP wrap: rule R221. -/
theorem test_INC_SP_wrap :
    stepShows [0x33] { zeroed with sp := 0xFFFF, flags := ⟨true, true, true, true⟩ } (fun t =>
      t.sp == 0x0000 && t.flags == ⟨true, true, true, true⟩ && t.pc == 0x0101 && t.cycles == 8) = true := by
  decide

/-- DEC BC wrap: rule R222. -/
theorem test_DEC_BC_wrap :
    stepShows [0x0B] { zeroed with b := 0x00, c := 0x00 } (fun t =>
      t.b == 0xFF && t.c == 0xFF && t.flags == ⟨false, false, false, false⟩ && t.pc == 0x0101 && t.cycles == 8) = true := by
  decide

/-- ADD SP,-1 from 1: rule R223. -/
theorem test_ADD_SP_minus_1_from_1 :
    stepShows [0xE8, 0xFF] { zeroed with sp := 0x0001, flags := ⟨true, false, false, false⟩ } (fun t =>
      t.sp == 0x0000 && t.flags == ⟨false, false, true, true⟩ && t.pc == 0x0102 && t.cycles == 16) = true := by
  decide

/-- LD HL,SP-128: rule R224. -/
theorem test_LD_HL_SP_minus_128 :
    stepShows [0xF8, 0x80] { zeroed with sp := 0x0100 } (fun t =>
      t.h == 0x00 && t.l == 0x80 && t.flags == ⟨false, false, false, false⟩ && t.pc == 0x0102 && t.cycles == 12) = true := by
  decide

/-- RLCA zero keeps Z=0: rule R240. -/
theorem test_RLCA_zero_keeps_Z0 :
    stepShows [0x07] { zeroed with a := 0x00, flags := ⟨true, false, false, false⟩ } (fun t =>
      t.a == 0x00 && t.flags == ⟨false, false, false, false⟩ && t.pc == 0x0101 && t.cycles == 4) = true := by
  decide

/-- RRCA: rule R241. -/
theorem test_RRCA :
    stepShows [0x0F] { zeroed with a := 0x3B } (fun t =>
      t.a == 0x9D && t.flags == ⟨false, false, false, true⟩ && t.pc == 0x0101 && t.cycles == 4) = true := by
  decide

/-- RLA: rule R242. -/
theorem test_RLA :
    stepShows [0x17] { zeroed with a := 0x95, flags := ⟨false, false, false, true⟩ } (fun t =>
      t.a == 0x2B && t.flags == ⟨false, false, false, true⟩ && t.pc == 0x0101 && t.cycles == 4) = true := by
  decide

/-- RRA: rule R243. -/
theorem test_RRA :
    stepShows [0x1F] { zeroed with a := 0x81 } (fun t =>
      t.a == 0x40 && t.flags == ⟨false, false, false, true⟩ && t.pc == 0x0101 && t.cycles == 4) = true := by
  decide

/-- RLC B: rule R245. -/
theorem test_RLC_B :
    stepShows [0xCB, 0x00] { zeroed with b := 0x85 } (fun t =>
      t.b == 0x0B && t.flags == ⟨false, false, false, true⟩ && t.pc == 0x0102 && t.cycles == 8) = true := by
  decide

/-- RRC C: rule R247. -/
theorem test_RRC_C :
    stepShows [0xCB, 0x09] { zeroed with c := 0x01 } (fun t =>
      t.c == 0x80 && t.flags == ⟨false, false, false, true⟩ && t.pc == 0x0102 && t.cycles == 8) = true := by
  decide

/-- RL L: rule R249. -/
theorem test_RL_L :
    stepShows [0xCB, 0x15] { zeroed with l := 0x80 } (fun t =>
      t.l == 0x00 && t.flags == ⟨true, false, false, true⟩ && t.pc == 0x0102 && t.cycles == 8) = true := by
  decide

/-- RR A carry in: rule R251. -/
theorem test_RR_A_carry_in :
    stepShows [0xCB, 0x1F] { zeroed with a := 0x00, flags := ⟨false, false, false, true⟩ } (fun t =>
      t.a == 0x80 && t.flags == ⟨false, false, false, false⟩ && t.pc == 0x0102 && t.cycles == 8) = true := by
  decide

/-- SLA (HL): rule R254. -/
theorem test_SLA_atHL :
    stepShows [0xCB, 0x26] { zeroed with h := 0xC0, l := 0x00, bus := .flatRam [(0xC000, 0xFF)] } (fun t =>
      t.memRead 0xC000 == 0xFE && t.flags == ⟨false, false, false, true⟩ && t.pc == 0x0102 && t.cycles == 16) = true := by
  decide

/-- SRA A: rule R255. -/
theorem test_SRA_A :
    stepShows [0xCB, 0x2F] { zeroed with a := 0x8A } (fun t =>
      t.a == 0xC5 && t.flags == ⟨false, false, false, false⟩ && t.pc == 0x0102 && t.cycles == 8) = true := by
  decide

/-- SRL (HL): rule R258. -/
theorem test_SRL_atHL :
    stepShows [0xCB, 0x3E] { zeroed with h := 0xC0, l := 0x00, bus := .flatRam [(0xC000, 0xFF)] } (fun t =>
      t.memRead 0xC000 == 0x7F && t.flags == ⟨false, false, false, true⟩ && t.pc == 0x0102 && t.cycles == 16) = true := by
  decide

/-- SWAP A: rule R259. -/
theorem test_SWAP_A :
    stepShows [0xCB, 0x37] { zeroed with a := 0xF0, flags := ⟨false, true, true, true⟩ } (fun t =>
      t.a == 0x0F && t.flags == ⟨false, false, false, false⟩ && t.pc == 0x0102 && t.cycles == 8) = true := by
  decide

/-- BIT 0,(HL): rule R262. -/
theorem test_BIT_0_atHL :
    stepShows [0xCB, 0x46] { zeroed with h := 0xC0, l := 0x00, bus := .flatRam [(0xC000, 0xFE)] } (fun t =>
      t.memRead 0xC000 == 0xFE && t.flags == ⟨true, false, true, false⟩ && t.pc == 0x0102 && t.cycles == 12) = true := by
  decide

/-- BIT 7,H: rule R261. -/
theorem test_BIT_7_H :
    stepShows [0xCB, 0x7C] { zeroed with h := 0x80, flags := ⟨false, false, false, true⟩ } (fun t =>
      t.flags == ⟨false, false, true, true⟩ && t.pc == 0x0102 && t.cycles == 8) = true := by
  decide

/-- RES 7,A: rule R263. -/
theorem test_RES_7_A :
    stepShows [0xCB, 0xBF] { zeroed with a := 0x80, flags := ⟨true, true, true, true⟩ } (fun t =>
      t.a == 0x00 && t.flags == ⟨true, true, true, true⟩ && t.pc == 0x0102 && t.cycles == 8) = true := by
  decide

/-- SET 2,(HL) on IF: rule R266; 10_state.md rule R46. -/
theorem test_SET_2_atHL_on_IF :
    stepShows [0xCB, 0xD6] { zeroed with h := 0xFF, l := 0x0F } (fun t =>
      t.iflag == 0x04 && t.pc == 0x0102 && t.cycles == 16) = true := by
  decide

/-- JP Z untaken: rule R272. -/
theorem test_JP_Z_untaken :
    stepShows [0xCA, 0x50, 0x01] zeroed (fun t =>
      t.pc == 0x0103 && t.cycles == 12) = true := by
  decide

/-- JP HL: rule R273. -/
theorem test_JP_HL :
    stepShows [0xE9] { zeroed with h := 0x40, l := 0x00 } (fun t =>
      t.pc == 0x4000 && t.cycles == 4) = true := by
  decide

/-- JR wrap: rule R274. -/
theorem test_JR_wrap :
    stepShows [0x18] { zeroed with pc := 0xFFFE, ie := 0x05 } (fun t =>
      t.pc == 0x0005 && t.cycles == 12) = true := by
  decide

/-- JR NZ -3 taken: rule R275. -/
theorem test_JR_NZ_back_3_taken :
    stepShows [0x20, 0xFD] zeroed (fun t =>
      t.pc == 0x00FF && t.cycles == 12) = true := by
  decide

/-- JR NC untaken: rule R275. -/
theorem test_JR_NC_untaken :
    stepShows [0x30, 0x10] { zeroed with flags := ⟨false, false, false, true⟩ } (fun t =>
      t.pc == 0x0102 && t.cycles == 8) = true := by
  decide

/-- CALL C untaken: rule R277. -/
theorem test_CALL_C_untaken :
    stepShows [0xDC, 0x34, 0x12] { zeroed with pc := 0x0150 } (fun t =>
      t.pc == 0x0153 && t.sp == 0xFFFE && t.cycles == 12) = true := by
  decide

/-- CALL NZ taken: rule R277. -/
theorem test_CALL_NZ_taken :
    stepShows [0xC4, 0x34, 0x12] { zeroed with pc := 0x0150 } (fun t =>
      t.pc == 0x1234 && t.sp == 0xFFFC && t.memRead 0xFFFD == 0x01 && t.memRead 0xFFFC == 0x53 && t.cycles == 24) = true := by
  decide

/-- RET Z taken: rule R279. -/
theorem test_RET_Z_taken :
    stepShows [0xC8] { zeroed with sp := 0xFFFC, flags := ⟨true, false, false, false⟩, bus := .flatRam [(0xFFFC, 0x53), (0xFFFD, 0x01)] } (fun t =>
      t.pc == 0x0153 && t.sp == 0xFFFE && t.cycles == 20) = true := by
  decide

/-- RETI: rule R280. -/
theorem test_RETI :
    stepShows [0xD9] { zeroed with sp := 0xFFFC, bus := .flatRam [(0xFFFD, 0x02)] } (fun t =>
      t.pc == 0x0200 && t.sp == 0xFFFE && t.ime && t.cycles == 16) = true := by
  decide

/-- RST 38: rule R281. -/
theorem test_RST_38 :
    stepShows [0xFF] { zeroed with pc := 0x0200 } (fun t =>
      t.pc == 0x0038 && t.sp == 0xFFFC && t.memRead 0xFFFD == 0x02 && t.memRead 0xFFFC == 0x01 && t.cycles == 16) = true := by
  decide

/-- RET from SP=FFFF: rule R278; 20_memory.md rule R76. -/
theorem test_RET_from_SP_FFFF :
    stepShows [0xC9] { zeroed with sp := 0xFFFF, ie := 0x34, bus := .flatRam [(0x0000, 0x12)] } (fun t =>
      t.pc == 0x1234 && t.sp == 0x0001 && t.cycles == 16) = true := by
  decide

/-- DI: rule R301. -/
theorem test_DI :
    stepShows [0xF3] { zeroed with ime := true } (fun t =>
      !t.ime && t.pc == 0x0101 && t.cycles == 4) = true := by
  decide

/-- EI: rule R304. -/
theorem test_EI :
    stepShows [0xFB] zeroed (fun t =>
      t.ime && t.pc == 0x0101 && t.cycles == 4) = true := by
  decide

/-- HALT no pending: rule R302. -/
theorem test_HALT_no_pending :
    stepShows [0x76] { zeroed with pc := 0x0200, ie := 0x04 } (fun t =>
      t.halted && !t.haltBug && t.pc == 0x0201 && t.cycles == 4) = true := by
  decide

/-- HALT IME0 pending -> bug: rule R302. -/
theorem test_HALT_IME0_pending_to_bug :
    stepShows [0x76] { zeroed with pc := 0x0200, ie := 0x04, iflag := 0x04 } (fun t =>
      !t.halted && t.haltBug && t.pc == 0x0201 && t.cycles == 4) = true := by
  decide

/-- STOP: rule R303. -/
theorem test_STOP :
    stepShows [0x10, 0x00] { zeroed with pc := 0x0300, div := 0x5A, divAcc := 100 } (fun t =>
      t.stopped && t.div == 0x00 && t.divAcc == 4 && t.pc == 0x0302 && t.cycles == 4) = true := by
  decide

/-- ILLEGAL DD: rule R305; 60_exceptions.md rule R345. -/
theorem test_ILLEGAL_DD :
    stepShows [0xDD] { zeroed with pc := 0x0400 } (fun t =>
      t.locked && t.fault == some ⟨0xDD, 0x0400⟩ && t.pc == 0x0401 && t.cycles == 4) = true := by
  decide

/-- I1 of section 3.1: a dispatch. -/
theorem test_dispatch :
    stepShows [] { zeroed with pc := 0x0200, ime := true, ie := 0x04, iflag := 0x04 } (fun t =>
      t.pc == 0x0050 && t.sp == 0xFFFC && t.memRead 0xFFFD == 0x02 && t.memRead 0xFFFC == 0x00 && t.iflag == 0 && !t.ime &&
      t.cycles == 20) = true := by
  decide

/-- I7 of section 3.1: the push overwrites IE, and the vector chosen is kept. -/
theorem test_dispatch_overwriting_ie :
    stepShows [] { zeroed with pc := 0x1234, sp := 0x0000, ime := true, ie := 0x04, iflag := 0x04 } (fun t =>
      t.pc == 0x0050 && t.sp == 0xFFFE && t.ie == 0x12 && t.memRead 0xFFFE == 0x34 && t.iflag == 0 && t.cycles == 20) = true := by
  decide

/-- The wake step of I3 of section 3.1: with IME = 0 the instruction after HALT runs in the step that wakes. -/
theorem test_wake_without_dispatch :
    stepShows [0x3C] { zeroed with pc := 0x0201, halted := true, ie := 0x04, iflag := 0x04 } (fun t =>
      t.a == 0x01 && t.pc == 0x0202 && !t.halted && t.iflag == 0x04 && t.cycles == 4) = true := by
  decide

/-- The second step of "halt bug LD A,n" (section 2.6): the opcode byte is read again as the operand. -/
theorem test_haltBug_rereads_the_opcode :
    stepShows [0x3E, 0x14] { zeroed with haltBug := true, ie := 0x04, iflag := 0x04 } (fun t =>
      t.a == 0x3E && t.pc == 0x0101 && !t.haltBug && t.cycles == 8) = true := by
  decide

/-- T1 of section 1.8, the step that overflows TIMA, under both settings of TIMER_OVERSHOOT. -/
theorem test_timer_overflow :
    stepShows [0x00] { zeroed with tac := 5, tima := 0xFF, tma := 0x80, countdown := 1 } (fun t =>
      t.tima == 0x80 && t.iflag == 0x04 && t.countdown == 13) = true ∧
    stepShows [0x00] { zeroed with tac := 5, tima := 0xFF, tma := 0x80, countdown := 1, params := ⟨.discard, []⟩ } (fun t =>
      t.tima == 0x80 && t.iflag == 0x04 && t.countdown == 16) = true := by
  decide

/-- T3 and T4 of section 3.2, their TimerAdvance: the divider's loop, and two ticks in one advance under `carry` alone. -/
theorem test_timerAdvance :
    (zeroed.timerAdvance 600).div = 0x02 ∧ (zeroed.timerAdvance 600).divAcc = 88 ∧
    ({ zeroed with tac := 5, tima := 0x01, countdown := 8 }.timerAdvance 24).tima = 0x03 ∧
    ({ zeroed with tac := 5, tima := 0x01, countdown := 8 }.timerAdvance 24).countdown = 16 ∧
    ({ zeroed with tac := 5, tima := 0x01, countdown := 16, params := ⟨.discard, []⟩ }.timerAdvance 24).tima = 0x02 := by
  decide

/-- T6a and T10 of section 3.2: a store that changes the clock select, and a store to IF before the overflow of the same step. -/
theorem test_timer_after_the_store :
    stepShows [0xE0, 0x07] { zeroed with tac := 5, countdown := 10, a := 0x06 } (fun t =>
      t.tac == 6 && t.countdown == 52 && t.tima == 0) = true ∧
    stepShows [0xE0, 0x0F] { zeroed with tac := 5, countdown := 12, tima := 0xFF, iflag := 1 } (fun t =>
      t.iflag == 4 && t.tima == 0) = true := by
  decide

/-- A CYCLES table that departs from the default for NOP: the step returns, and the timer is fed, that count. -/
theorem test_cycleTable :
    stepShows [0x00] { zeroed with params := ⟨.carry, [((0x00, true), 7)]⟩ } (fun t => t.cycles == 7 && t.divAcc == 7) = true := by
  decide

/-- R340: STOP is left by `stopWake` alone, and `read` answers F with its low nibble 0, and the fault with its cause code 0 (R323). -/
theorem test_host_calls :
    ({ zeroed with stopped := true }.hostCall .stopWake).stopped = false ∧
    (zeroed.hostCall (.requestInterrupt 2)).iflag = 0x04 ∧
    { zeroed with flags := ⟨true, false, true, true⟩ }.hostRead .f = .number 0xB0 ∧
    { zeroed with locked := true, fault := some ⟨0xDD, 0x0400⟩ }.hostRead .fault = .fault (some (0, ⟨0xDD, 0x0400⟩)) ∧
    zeroed.hostRead .fault = .fault none := by
  decide

/-- R73, R74: with a BUS other than FLAT_RAM an access outside the block registers is the bus's, one to a block register is not. -/
theorem test_external_bus :
    ({ zeroed with bus := .external [1] } : State).memRead 0xFF03 = Config.busRead [1] 0xFF03 ∧
    (({ zeroed with bus := .external [1] } : State).memWrite 0xC000 0x5A).bus = .external (Config.busWrite [1] 0xC000 0x5A) ∧
    ({ zeroed with bus := .external [1] } : State).memWrite 0xFFFF 0x5A = { zeroed with bus := .external [1], ie := 0x5A } :=
  ⟨rfl, rfl, rfl⟩

/-- EI then HALT at 0x0200 with a request pending: the step after EI is the dispatch, and it pushes 0x0201, the address of HALT (the
reading of R304 and R320 that log entry 18 takes). -/
theorem test_EI_HALT_pending :
    (match step ({ zeroed with pc := 0x0200, ie := 0x04, iflag := 0x04 }.placeBytes 0x0200 [0xFB, 0x76]) with
      | .next t => stepShows [] t fun u =>
          u.pc == 0x0050 && u.memRead 0xFFFD == 0x02 && u.memRead 0xFFFC == 0x01 && !u.halted && u.cycles == 20
      | _ => false) = true := by
  decide

/-- The word placed for the next step is the instruction it runs, from reset. -/
theorem test_withFetchWord :
    (match step (State.reset.withFetchWord 8 0x04) with
      | .next t => t.b == 0x01 && t.pc == 0x0101
      | _ => false) = true ∧
    (match step (State.reset.withFetchWord 16 0xCBC0) with
      | .next t => t.b == 0x01 && t.pc == 0x0102
      | _ => false) = true := by
  decide

theorem test_reset_inv : State.reset.Inv := by decide

/-! ## Witnesses: a concrete state and operands that meet all hypotheses of each statement that has some -/

theorem test_witness_PopPair : StackPair.bc ≠ .af ∧ StackPair.de ≠ .af ∧ StackPair.hl ≠ .af := by decide

theorem test_witness_DecimalAdjustAddsBcd :
    (Reg8.l ≠ .a ∧ zeroed.a = byte (16 * ((0 : Fin 100).val / 10) + (0 : Fin 100).val % 10) ∧
      zeroed.getReg .l = byte (16 * ((0 : Fin 100).val / 10) + (0 : Fin 100).val % 10)) ∧
    Reg8.b ≠ .a ∧ { zeroed with a := 0x99, b := 0x99 }.a = byte (16 * ((99 : Fin 100).val / 10) + (99 : Fin 100).val % 10) ∧
    { zeroed with a := 0x99, b := 0x99 }.getReg .b = byte (16 * ((99 : Fin 100).val / 10) + (99 : Fin 100).val % 10) := by
  decide

/-- The lowest SP with both stack bytes on the bus, and reset's. -/
theorem test_witness_CallThenReturnRestores :
    (({ zeroed with sp := 0x0002 } : State).bus.isFlatRam = true ∧ blockReg? ({ zeroed with sp := 0x0002 }.sp - 1) = none ∧
      blockReg? ({ zeroed with sp := 0x0002 }.sp - 2) = none) ∧
    State.reset.bus.isFlatRam = true ∧ blockReg? (State.reset.sp - 1) = none ∧ blockReg? (State.reset.sp - 2) = none := by
  decide

theorem test_witness_PopAfterPush :
    State.reset.bus.isFlatRam = true ∧ blockReg? (State.reset.sp - 1) = none ∧ blockReg? (State.reset.sp - 2) = none := by
  decide

/-- FLAT_RAM, another BUS with a block register, and the bus addresses next to the block registers. -/
theorem test_witness_ReadAfterWrite :
    State.reset.bus.isFlatRam = true ∧ (BusState.external [1]).isFlatRam = false ∧ blockReg? 0xFFFF ≠ none ∧
    blockReg? 0xFF03 = none ∧ blockReg? 0xFF08 = none ∧ blockReg? 0xFF0E = none ∧ blockReg? 0xFF10 = none ∧ blockReg? 0xFFFE = none ∧
    blockReg? 0x0000 = none := by
  decide

theorem test_witness_IllegalOpcodeLocks : ∃ t, exec (.illegal .fd) State.reset = .next t := ⟨_, rfl⟩

/-- A running core; a halted one that a request wakes with IME = 0; one under the halt bug. -/
theorem test_witness_StepRunsTheDecodedInstruction :
    (∃ (s : State) (i : Instr) (rest : List Byte),
      s.locked = false ∧ s.stopped = false ∧ (s.halted = true → s.pending ≠ 0) ∧ (s.ime = true → s.pending = 0) ∧ s.haltBug = false ∧
      decode [s.memRead s.pc, s.memRead (s.pc + 1), s.memRead (s.pc + 2)] = .ok (i, rest)) ∧
    (∃ (s : State) (i : Instr) (rest : List Byte),
      s.locked = false ∧ s.stopped = false ∧ s.halted = true ∧ s.pending ≠ 0 ∧ s.ime = false ∧ s.haltBug = false ∧
      decode [s.memRead s.pc, s.memRead (s.pc + 1), s.memRead (s.pc + 2)] = .ok (i, rest)) ∧
    ∃ (s : State) (i : Instr) (rest : List Byte),
      s.locked = false ∧ s.stopped = false ∧ s.halted = false ∧ s.ime = false ∧ s.haltBug = true ∧
      decode [s.memRead s.pc, s.memRead s.pc, s.memRead (s.pc + 1)] = .ok (i, rest) :=
  ⟨⟨State.reset, .nop, [0, 0], by decide, by decide, by decide, by decide, by decide, rfl⟩,
   ⟨{ zeroed with halted := true, ie := 4, iflag := 4 }, .nop, [0, 0], by decide, by decide, by decide, by decide, by decide, by decide,
    rfl⟩,
   ⟨{ zeroed with haltBug := true, ie := 4, iflag := 4, bus := .flatRam [(0x0100, 0x3E)] }, .ld_a_n 0x3E, [0x00], by decide, by decide, by decide,
    by decide, by decide, rfl⟩⟩

/-- The first and the last source. -/
theorem test_witness_DispatchOfTheLowestPending :
    (∃ s : State, s.locked = false ∧ s.stopped = false ∧ s.ime = true ∧ pendingBit s 0 = true ∧ ∀ j : Nat, j < 0 → pendingBit s j = false) ∧
    ∃ s : State, s.locked = false ∧ s.stopped = false ∧ s.ime = true ∧ pendingBit s 4 = true ∧ ∀ j : Nat, j < 4 → pendingBit s j = false :=
  ⟨⟨{ zeroed with ime := true, ie := 0x1F, iflag := 0x1F }, by decide, by decide, by decide, by decide, by decide⟩,
   ⟨{ zeroed with ime := true, ie := 0x1F, iflag := 0x10 }, by decide, by decide, by decide, by decide, by decide⟩⟩

theorem test_witness_DispatchExactlyWhenDue :
    { zeroed with ime := true, ie := 0x1F, iflag := 0x14 }.phase = .dispatch 2 ∧
    { zeroed with ime := true, halted := true, ie := 0x10, iflag := 0x10 }.phase = .dispatch 4 := by
  decide

theorem test_witness_HaltedAndStoppedSteps :
    (∃ s : State, s.locked = false ∧ s.stopped = false ∧ s.halted = true ∧ s.ie &&& s.iflag.setWidth 8 &&& 0x1F = 0) ∧
    ∃ s : State, s.locked = false ∧ s.stopped = true :=
  ⟨⟨{ zeroed with halted := true, ie := 0xE4, iflag := 0x1B }, by decide, by decide, by decide, by decide⟩,
   ⟨{ zeroed with stopped := true }, by decide, by decide⟩⟩

theorem test_witness_LockedStepOnlyFeedsTheTimer : ∃ s : State, s.locked = true ∧ s.ime = true ∧ pendingBit s 0 = true :=
  ⟨{ zeroed with locked := true, fault := some ⟨0xDD, 0x0400⟩, ime := true, ie := 1, iflag := 1 }, by decide, by decide, by decide⟩

/-- Each clause, at a count that leaves the countdown at 1 and at one that brings it to 0. -/
theorem test_witness_TimerAdvanceRunsTheLoop :
    (∃ s : State, s.tac.getLsbD 2 = false) ∧
    (∃ s : State, s.tac.getLsbD 2 = true ∧ s.params.overshoot = .carry ∧ s.countdown - (15 : Nat) = 1 ∧ s.countdown - (16 : Nat) = 0) ∧
    ∃ s : State, s.tac.getLsbD 2 = true ∧ s.params.overshoot = .discard ∧ s.countdown - (15 : Nat) = 1 ∧ s.countdown - (16 : Nat) = 0 :=
  ⟨⟨zeroed, by decide⟩, ⟨{ zeroed with tac := 5, countdown := 16 }, by decide, by decide, by decide, by decide⟩,
   ⟨{ zeroed with tac := 5, countdown := 16, params := ⟨.discard, []⟩ }, by decide, by decide, by decide, by decide⟩⟩

theorem test_witness_CarryTimerAddsUp : State.reset.params.overshoot = .carry := by decide

theorem test_witness_FlagWritingSummary : ∃ t, exec .daa State.reset = .next t := ⟨_, rfl⟩

/-- An instruction with a count of CYCLES, and one without. -/
theorem test_witness_CycleCounts :
    (∃ t, exec (.jr_nz_e 0xFE) State.reset = .next t) ∧ illegalKey (Instr.jr_nz_e 0xFE).key = false ∧
    (∃ t, exec .illegal_fd State.reset = .next t) ∧ illegalKey Instr.illegal_fd.key = true :=
  ⟨⟨_, rfl⟩, rfl, ⟨_, rfl⟩, rfl⟩

/-- The premises of `OnlyAt`: FLAT_RAM; a list of block registers' addresses alone, one of none, and one with a bus address, with an
address outside each. -/
theorem test_witness_OnlyAt :
    State.reset.bus.isFlatRam = true ∧ (∀ x ∈ [(0xFF04 : Word)], blockReg? x ≠ none) ∧ (0xFF03 : Word) ∉ [(0xFF04 : Word)] ∧
    (∀ x ∈ ([] : List Word), blockReg? x ≠ none) ∧ (0xFF05 : Word) ∉ [(0xC000 : Word)] ∧ blockReg? 0xFF05 ≠ none :=
  ⟨rfl, by simp [blockReg?], by decide, by simp, by decide, by decide⟩

/-- An instruction that stores, an address it stores to, and an address next to it; one that stores to a block register alone. -/
theorem test_witness_MemoryFrame :
    storeAddresses (.stop 0) State.reset = [0xFF04] ∧ storeAddresses .nop State.reset = [] ∧
    (∃ t, exec (.ld_atNN_sp 0xFFFF) State.reset = .next t) ∧ 0x0000 ∈ storeAddresses (.ld_atNN_sp 0xFFFF) State.reset ∧
    0x0001 ∉ storeAddresses (.ld_atNN_sp 0xFFFF) State.reset ∧ 0xFFFE ∉ storeAddresses (.ld_atNN_sp 0xFFFF) State.reset :=
  ⟨rfl, rfl, ⟨_, rfl⟩, by decide, by decide, by decide⟩

/-- The premises of the clauses of `RegisterWriters`, for NOP, and at the rows next to those that write. -/
theorem test_witness_RegisterWriters :
    (∃ t, exec .nop State.reset = .next t) ∧ writesReg .l Instr.nop.key = false ∧ writesReg .b Instr.ld_c_b.key = false ∧ writesReg .a Instr.cp_a.key = false ∧
    writesReg .h Instr.bit_0_h.key = false ∧ writesSP Instr.add_hl_sp.key = false ∧ transfersControl Instr.halt.key = false ∧
    Instr.nop.key ≠ 0xF3 ∧ Instr.nop.key ≠ 0xFB ∧ Instr.nop.key ≠ 0xD9 ∧ Instr.nop.key ≠ 0x76 ∧ Instr.nop.key ≠ 0x10 ∧
    illegalKey Instr.nop.key = false :=
  ⟨⟨_, rfl⟩, by decide⟩

theorem test_witness_StepKeepsTheInvariant : State.reset.Inv ∧ ∃ t, step State.reset = .next t := ⟨by decide, _, rfl⟩

theorem test_witness_ResetHasTheInvariant :
    (BusState.flatRam []).wf = true ∧ (BusState.flatRam [(0x0000, 0x01), (0xFFFE, 0xFF)]).wf = true ∧ (BusState.external [7]).wf = true := by
  decide

theorem test_witness_HostCallsKeepTheInvariant : State.reset.Inv ∧ { State.reset with halted := true }.Inv := by decide

theorem test_witness_HostCallEffects :
    blockReg? 0xFF04 ≠ none ∧ blockReg? 0xFF07 ≠ none ∧ blockReg? 0xFF0F ≠ none ∧ blockReg? 0xFFFF ≠ none ∧
    blockReg? 0xFF03 = none ∧ blockReg? 0xFF08 = none ∧ blockReg? 0xFFFE = none ∧
    zeroed.bus.isFlatRam = true ∧ ({ zeroed with bus := .external [1] } : State).bus.isFlatRam = false := by
  decide

theorem test_witness_RequestWakesAndDispatches :
    ∃ s : State, s.locked = false ∧ s.stopped = false ∧ s.halted = true ∧ s.ime = true ∧ s.ie.getLsbD 4 = true ∧
      ∀ j : Nat, j < 4 → pendingBit s j = false :=
  ⟨{ zeroed with halted := true, ime := true, ie := 0x1F }, by decide, by decide, by decide, by decide, by decide, by decide⟩

end Sys2Proof.Tests
end

section
/-! PROOF. What an operation may write: a footprint lists the registers, flags and control bits, and `Frame` says that nothing outside it
changes. One rule per operation of Machine/Ops.lean and Machine/Operands.lean, and one for an operation after another. -/

namespace Sys2Proof.Claims

/-- The effect on a flag of one update after another. -/
def FlagEffect.andThen : FlagEffect → FlagEffect → FlagEffect
  | .kept, e => e
  | e, .kept => e
  | _, e => e

theorem FlagEffect.obeyed_andThen {e e' : FlagEffect} {x y z : Bool} (h : e.Obeyed x y) (h' : e'.Obeyed y z) :
    (e.andThen e').Obeyed x z := by
  cases e <;> cases e' <;> simp_all [FlagEffect.andThen, FlagEffect.Obeyed]

/-- The effects on Z, N, H and C, as a row of the flag summary gives them (10_state.md R37). -/
abbrev FlagEffects := FlagEffect × FlagEffect × FlagEffect × FlagEffect

def FlagEffects.kept : FlagEffects := (.kept, .kept, .kept, .kept)
def FlagEffects.computed : FlagEffects := (.computed, .computed, .computed, .computed)

def FlagEffects.andThen (e e' : FlagEffects) : FlagEffects :=
  (e.1.andThen e'.1, e.2.1.andThen e'.2.1, e.2.2.1.andThen e'.2.2.1, e.2.2.2.andThen e'.2.2.2)

/-- What the effects ask of the old and the new flags. -/
def FlagEffects.Obeyed (e : FlagEffects) (f g : Flags) : Prop :=
  e.1.Obeyed f.z g.z ∧ e.2.1.Obeyed f.n g.n ∧ e.2.2.1.Obeyed f.h g.h ∧ e.2.2.2.Obeyed f.c g.c

theorem FlagEffects.obeyed_kept {f g : Flags} (h : g = f) : FlagEffects.kept.Obeyed f g := by
  subst h
  exact ⟨rfl, rfl, rfl, rfl⟩

theorem FlagEffects.obeyed_computed (f g : Flags) : FlagEffects.computed.Obeyed f g := ⟨trivial, trivial, trivial, trivial⟩

theorem FlagEffects.obeyed_andThen {e e' : FlagEffects} {f g k : Flags} (h : e.Obeyed f g) (h' : e'.Obeyed g k) :
    (e.andThen e').Obeyed f k := by
  obtain ⟨hz, hn, hh, hc⟩ := h
  obtain ⟨hz', hn', hh', hc'⟩ := h'
  exact ⟨FlagEffect.obeyed_andThen hz hz', FlagEffect.obeyed_andThen hn hn', FlagEffect.obeyed_andThen hh hh',
    FlagEffect.obeyed_andThen hc hc'⟩

end Sys2Proof.Claims

namespace Sys2Proof.Machine
open Sys2Proof.Claims

/-- What an operation may write. `halt` stands for `halted` and `haltBug`, `lock` for `locked` and the fault. -/
structure Footprint where
  regs : List Reg8 := []
  flags : FlagEffects := .kept
  sp : Bool := false
  pc : Bool := false
  ime : Bool := false
  halt : Bool := false
  stop : Bool := false
  lock : Bool := false

/-- The footprint of one operation after another. -/
def Footprint.seq (w w' : Footprint) : Footprint where
  regs := w.regs ++ w'.regs
  flags := w.flags.andThen w'.flags
  sp := w.sp || w'.sp
  pc := w.pc || w'.pc
  ime := w.ime || w'.ime
  halt := w.halt || w'.halt
  stop := w.stop || w'.stop
  lock := w.lock || w'.lock

/-- No execution state (10_state.md R55) is entered. -/
def Footprint.quiet (w : Footprint) : Bool := !w.halt && !w.stop && !w.lock

def Footprint.none : Footprint := {}
def Footprint.reg (r : Reg8) : Footprint := { regs := [r] }
def Footprint.flag (e : FlagEffects) : Footprint := { flags := e }
def Footprint.onlySP : Footprint := { sp := true }
def Footprint.onlyPC : Footprint := { pc := true }
def Footprint.onlyIME : Footprint := { ime := true }

/-- The 8-bit register an operand field writes, if it writes one. -/
def Footprint.loc : Loc → Footprint
  | .reg r => .reg r
  | .atHL => .none

/-- What a write of a pair writes. -/
def Footprint.pair : Pair → Footprint
  | .bc => { regs := [.b, .c] }
  | .de => { regs := [.d, .e] }
  | .hl => { regs := [.h, .l] }
  | .sp => .onlySP

def Footprint.stackPair : StackPair → Footprint
  | .bc => .pair .bc
  | .de => .pair .de
  | .hl => .pair .hl
  | .af => { regs := [.a], flags := .computed }

/-- None of the execution states of 10_state.md R55 but Running, and no halt bug. -/
structure State.Running (s : State) : Prop where
  halted : s.halted = false
  haltBug : s.haltBug = false
  stopped : s.stopped = false
  locked : s.locked = false
  fault : s.fault = none

theorem State.Running.modesExclusive {s : State} (h : s.Running) : s.ModesExclusive := by
  simp [State.ModesExclusive, h.halted, h.haltBug, h.locked, h.fault]

/-- The part of the invariant that speaks of the memory and the timer, which stores alone can touch in an instruction. -/
abbrev State.MemoryInv (s : State) : Prop := s.bus.wf = true ∧ s.TimerInRange

/-- `t` comes from `s` by writes within the footprint `w`; the parameters and the kind of BUS stay, the invariant of memory and timer is
kept, and an operation that enters an execution state does so as the invariant asks. -/
structure Frame (w : Footprint) (s t : State) : Prop where
  regs : ∀ r, r ∉ w.regs → t.getReg r = s.getReg r
  flags : w.flags.Obeyed s.flags t.flags
  sp : w.sp = false → t.sp = s.sp
  pc : w.pc = false → t.pc = s.pc
  ime : w.ime = false → t.ime = s.ime
  halt : w.halt = false → t.halted = s.halted ∧ t.haltBug = s.haltBug
  stop : w.stop = false → t.stopped = s.stopped
  lock : w.lock = false → t.locked = s.locked ∧ t.fault = s.fault
  params : t.params = s.params
  isFlatRam : t.bus.isFlatRam = s.bus.isFlatRam
  memory : s.MemoryInv → t.MemoryInv
  exclusive : w.quiet = false → s.Running → t.ModesExclusive

namespace Frame

variable {w w' : Footprint} {s t u : State}

/-- A quiet operation leaves a running core running. -/
theorem running (h : Frame w s t) (hw : w.quiet = true) (hs : s.Running) : t.Running := by
  simp only [Footprint.quiet, Bool.and_eq_true, Bool.not_eq_true'] at hw
  obtain ⟨⟨hhalt, hstop⟩, hlock⟩ := hw
  obtain ⟨hhalted, hbug⟩ := h.halt hhalt
  obtain ⟨hlocked, hfault⟩ := h.lock hlock
  exact ⟨hhalted.trans hs.halted, hbug.trans hs.haltBug, (h.stop hstop).trans hs.stopped, hlocked.trans hs.locked,
    hfault.trans hs.fault⟩

/-- From a running core every operation leaves the execution states exclusive. -/
theorem modesExclusive (h : Frame w s t) (hs : s.Running) : t.ModesExclusive := by
  cases hw : w.quiet with
  | true => exact (h.running hw hs).modesExclusive
  | false => exact h.exclusive hw hs

/-- One operation after another, where the first enters no execution state. -/
theorem trans (h : Frame w s t) (h' : Frame w' t u) (hw : w.quiet = true) : Frame (w.seq w') s u where
  regs r hr := by
    simp only [Footprint.seq, List.mem_append, not_or] at hr
    exact (h'.regs r hr.2).trans (h.regs r hr.1)
  flags := FlagEffects.obeyed_andThen h.flags h'.flags
  sp hsp := by
    obtain ⟨h1, h2⟩ := Bool.or_eq_false_iff.1 hsp
    exact (h'.sp h2).trans (h.sp h1)
  pc hpc := by
    obtain ⟨h1, h2⟩ := Bool.or_eq_false_iff.1 hpc
    exact (h'.pc h2).trans (h.pc h1)
  ime hime := by
    obtain ⟨h1, h2⟩ := Bool.or_eq_false_iff.1 hime
    exact (h'.ime h2).trans (h.ime h1)
  halt hhalt := by
    obtain ⟨h1, h2⟩ := Bool.or_eq_false_iff.1 hhalt
    exact ⟨(h'.halt h2).1.trans (h.halt h1).1, (h'.halt h2).2.trans (h.halt h1).2⟩
  stop hstop := by
    obtain ⟨h1, h2⟩ := Bool.or_eq_false_iff.1 hstop
    exact (h'.stop h2).trans (h.stop h1)
  lock hlock := by
    obtain ⟨h1, h2⟩ := Bool.or_eq_false_iff.1 hlock
    exact ⟨(h'.lock h2).1.trans (h.lock h1).1, (h'.lock h2).2.trans (h.lock h1).2⟩
  params := h'.params.trans h.params
  isFlatRam := h'.isFlatRam.trans h.isFlatRam
  memory hs := h'.memory (h.memory hs)
  exclusive _ hs := h'.modesExclusive (h.running hw hs)

/-- Nothing written is within every footprint that keeps the flags. -/
theorem unchanged (s : State) (w : Footprint) (hw : w.flags = .kept) : Frame w s s where
  regs _ _ := rfl
  flags := hw ▸ FlagEffects.obeyed_kept rfl
  sp _ := rfl
  pc _ := rfl
  ime _ := rfl
  halt _ := ⟨rfl, rfl⟩
  stop _ := rfl
  lock _ := ⟨rfl, rfl⟩
  params := rfl
  isFlatRam := rfl
  memory := id
  exclusive _ hs := hs.modesExclusive

theorem refl (s : State) : Frame .none s s := unchanged s .none rfl

/-- The reported count is in no footprint. -/
theorem report (h : Frame w s t) (k : Nat) : Frame w s (t.report k) := { h with }

end Frame

variable (s : State)

/-! ### The single writes -/

theorem State.setFlags_frame {e : FlagEffects} {f : Flags} (h : e.Obeyed s.flags f) : Frame (.flag e) s { s with flags := f } :=
  { Frame.refl s with flags := h, exclusive := nofun }

theorem State.setSP_frame (v : Word) : Frame .onlySP s { s with sp := v } := { Frame.refl s with sp := nofun, exclusive := nofun }

theorem State.setPC_frame (v : Word) : Frame .onlyPC s { s with pc := v } := { Frame.refl s with pc := nofun, exclusive := nofun }

theorem State.setIME_frame (x : Bool) : Frame .onlyIME s { s with ime := x } :=
  { Frame.refl s with ime := nofun, exclusive := nofun }

theorem State.setReg_frame (r : Reg8) (v : Byte) : Frame (.reg r) s (s.setReg r v) where
  regs q hq := by rw [State.getReg_setReg, if_neg (by simpa [Footprint.reg] using hq)]
  flags := FlagEffects.obeyed_kept (by simp)
  sp _ := by simp
  pc _ := by simp
  ime _ := by simp
  halt _ := by simp
  stop _ := by simp
  lock _ := by simp
  params := by simp
  isFlatRam := by simp
  memory := by simp [State.MemoryInv, State.TimerInRange]
  exclusive := nofun

theorem State.memWrite_frame (a : Word) (v : Byte) : Frame .none s (s.memWrite a v) where
  regs r _ := by cases r <;> simp [State.getReg]
  flags := FlagEffects.obeyed_kept (by simp)
  sp _ := by simp
  pc _ := by simp
  ime _ := by simp
  halt _ := by simp
  stop _ := by simp
  lock _ := by simp
  params := by simp
  isFlatRam := by simp
  memory := fun ⟨hwf, hrange⟩ => ⟨s.memWrite_wf a v hwf, s.memWrite_range a v hrange⟩
  exclusive := nofun

/-! ### The execution states -/

/-- With IME = 0 and a request pending HALT arms the halt bug, else it halts (45_system.md R302). -/
theorem State.halt_frame : Frame { halt := true } s s.halt := by
  unfold State.halt
  split
  · next h =>
    exact { Frame.refl s with
      halt := nofun
      exclusive := fun _ hs => by simp [State.ModesExclusive, hs.halted, hs.stopped, hs.locked, hs.fault, h.1] }
  · exact { Frame.refl s with
      halt := nofun
      exclusive := fun _ hs => by simp [State.ModesExclusive, hs.haltBug, hs.stopped, hs.locked, hs.fault] }

theorem State.stop_frame : Frame { stop := true } s s.stop :=
  { Frame.refl s with
    stop := nofun
    memory := fun ⟨hwf, _, hcountdown⟩ => ⟨hwf, by simp [State.stop], hcountdown⟩
    exclusive := fun _ hs => by simp [State.stop, State.ModesExclusive, hs.halted, hs.haltBug, hs.locked, hs.fault] }

theorem State.raiseIllegal_frame (op : Byte) (a : Word) : Frame { lock := true } s (s.raiseIllegal op a) :=
  { Frame.refl s with
    lock := nofun
    exclusive := fun _ hs => by simp [State.ModesExclusive, hs.halted, hs.haltBug, hs.stopped] }

/-! ### The transfers -/

theorem State.writeLoc_frame (x : Loc) (v : Byte) : Frame (.loc x) s (s.writeLoc x v) := by
  cases x with
  | reg r => exact s.setReg_frame r v
  | atHL => exact s.memWrite_frame s.hl v

theorem State.setPair_frame (rr : Pair) (v : Word) : Frame (.pair rr) s (s.setPair rr v) := by
  cases rr with
  | bc => exact (s.setReg_frame .b (hiByte v)).trans (State.setReg_frame _ .c (loByte v)) rfl
  | de => exact (s.setReg_frame .d (hiByte v)).trans (State.setReg_frame _ .e (loByte v)) rfl
  | hl => exact (s.setReg_frame .h (hiByte v)).trans (State.setReg_frame _ .l (loByte v)) rfl
  | sp => exact s.setSP_frame v

theorem State.setStackPair_frame (rr : StackPair) (v : Word) : Frame (.stackPair rr) s (s.setStackPair rr v) := by
  cases rr with
  | bc => exact s.setPair_frame .bc v
  | de => exact s.setPair_frame .de v
  | hl => exact s.setPair_frame .hl v
  | af => exact (s.setReg_frame .a (hiByte v)).trans (State.setFlags_frame _ (FlagEffects.obeyed_computed _ _)) rfl

theorem State.loadA_frame (a : Word) : Frame (.reg .a) s (s.loadA a) := s.setReg_frame .a (s.memRead a)

theorem State.storeA_frame (a : Word) : Frame .none s (s.storeA a) := s.memWrite_frame a s.a

theorem State.storeSP_frame (nn : Word) : Frame .none s (s.storeSP nn) :=
  (s.memWrite_frame nn _).trans (State.memWrite_frame _ (nn + 1) _) rfl

theorem State.push16_frame (v : Word) : Frame .onlySP s (s.push16 v) :=
  let high := (s.setSP_frame _).trans (State.memWrite_frame _ _ (hiByte v)) rfl
  let low := (State.setSP_frame _ _).trans (State.memWrite_frame _ _ (loByte v)) rfl
  high.trans low rfl

theorem State.pop_frame (rr : StackPair) : Frame (Footprint.onlySP.seq (.stackPair rr)) s (s.pop rr) :=
  (s.setSP_frame _).trans (State.setStackPair_frame _ rr _) rfl

theorem State.jump_frame (target : Word) : Frame .onlyPC s (s.jump target) := s.setPC_frame target

theorem State.jumpRel_frame (e : Byte) : Frame .onlyPC s (s.jumpRel e) := s.setPC_frame _

theorem State.call_frame (target : Word) : Frame (Footprint.onlySP.seq .onlyPC) s (s.call target) :=
  (s.push16_frame s.pc).trans (State.setPC_frame _ target) rfl

theorem State.ret_frame : Frame (Footprint.onlySP.seq .onlyPC) s s.ret := (s.setSP_frame _).trans (State.setPC_frame _ _) rfl

theorem State.returnFromInterrupt_frame : Frame ((Footprint.onlySP.seq .onlyPC).seq .onlyIME) s s.returnFromInterrupt :=
  s.ret_frame.trans (s.ret.setIME_frame true) rfl

/-- A conditional instruction writes what its taken path does, or nothing. -/
theorem State.whenCond_frame {w : Footprint} (cc : Cond) {op : State → State} (hop : Frame w s (op s)) (hw : w.flags = .kept) :
    Frame w s (s.whenCond cc op) := by
  unfold State.whenCond
  split
  · exact hop
  · exact .unchanged s w hw

/-! ### The arithmetic -/

/-- The rows of the flag summary for the ALU operations (10_state.md R37). -/
def aluEffects : AluOp → FlagEffects
  | .add | .adc => (.computed, .zero, .computed, .computed)
  | .sub | .sbc | .cp => (.computed, .one, .computed, .computed)
  | .and => (.computed, .zero, .one, .zero)
  | .xor | .or => (.computed, .zero, .zero, .zero)

/-- The rows of the flag summary for the CB rotates, shifts and SWAP. -/
def rotEffects : RotOp → FlagEffects
  | .swap => (.computed, .zero, .zero, .zero)
  | _ => (.computed, .zero, .zero, .computed)

theorem aluResult_obeys (op : AluOp) (a v : Byte) (cin : Bool) (f : Flags) : (aluEffects op).Obeyed f (aluResult op a v cin).2 := by
  cases op with
  | and | xor | or => exact ⟨trivial, rfl, rfl, rfl⟩
  | _ => exact ⟨trivial, rfl, trivial, trivial⟩

theorem shiftFlags_obeys (op : RotOp) (v : Byte) (cin : Bool) (f : Flags) :
    (rotEffects op).Obeyed f (shiftFlags (shift8 op v cin)) := by
  cases op with
  | swap => exact ⟨trivial, rfl, rfl, rfl⟩
  | _ => exact ⟨trivial, rfl, rfl, trivial⟩

/-- A write of A and F. -/
theorem State.setAFlags_frame {e : FlagEffects} {v : Byte} {f : Flags} (h : e.Obeyed s.flags f) :
    Frame ((Footprint.reg .a).seq (.flag e)) s { s with a := v, flags := f } :=
  (s.setReg_frame .a v).trans (State.setFlags_frame _ h) rfl

/-- A write of HL and F. -/
theorem State.setHLFlags_frame {e : FlagEffects} {v : Word} {f : Flags} (h : e.Obeyed s.flags f) :
    Frame ((Footprint.pair .hl).seq (.flag e)) s { s.setHL v with flags := f } :=
  (s.setPair_frame .hl v).trans (State.setFlags_frame _ h) rfl

/-- A write of an operand and F. -/
theorem State.putWithFlags_frame {e : FlagEffects} (x : Loc) {r : Byte × Flags} (h : e.Obeyed s.flags r.2) :
    Frame ((Footprint.loc x).seq (.flag e)) s (s.putWithFlags x r) :=
  (s.writeLoc_frame x r.1).trans (State.setFlags_frame _ (by simpa using h)) (by cases x <;> rfl)

/-- CP alone leaves A (41_alu8.md R203). -/
def Footprint.alu : AluOp → Footprint
  | .cp => .flag (aluEffects .cp)
  | op => (Footprint.reg .a).seq (.flag (aluEffects op))

theorem State.alu_frame (op : AluOp) (v : Byte) : Frame (.alu op) s (s.alu op v) := by
  cases op with
  | cp => exact s.setFlags_frame (aluResult_obeys .cp s.a v s.flags.c s.flags)
  | _ => exact s.setAFlags_frame (aluResult_obeys _ s.a v s.flags.c s.flags)

theorem State.inc_frame (x : Loc) :
    Frame ((Footprint.loc x).seq (.flag (.computed, .zero, .computed, .kept))) s (s.inc x) :=
  s.putWithFlags_frame x ⟨trivial, rfl, trivial, rfl⟩

theorem State.dec_frame (x : Loc) :
    Frame ((Footprint.loc x).seq (.flag (.computed, .one, .computed, .kept))) s (s.dec x) :=
  s.putWithFlags_frame x ⟨trivial, rfl, trivial, rfl⟩

theorem State.rot_frame (op : RotOp) (x : Loc) : Frame ((Footprint.loc x).seq (.flag (rotEffects op))) s (s.rot op x) :=
  s.putWithFlags_frame x (shiftFlags_obeys op _ _ _)

theorem State.rotA_frame (op : RotOp) :
    Frame ((Footprint.reg .a).seq (.flag (.zero, .zero, .zero, .computed))) s (s.rotA op) :=
  s.setAFlags_frame ⟨rfl, rfl, rfl, trivial⟩

theorem State.bitTest_frame (b : Nat) (x : Loc) : Frame (.flag (.computed, .zero, .one, .kept)) s (s.bitTest b x) :=
  s.setFlags_frame ⟨trivial, rfl, rfl, rfl⟩

theorem State.addHL_frame (v : Word) :
    Frame ((Footprint.pair .hl).seq (.flag (.kept, .zero, .computed, .computed))) s (s.addHL v) :=
  s.setHLFlags_frame ⟨rfl, rfl, trivial, trivial⟩

theorem State.loadHLSP_frame (e : Byte) :
    Frame ((Footprint.pair .hl).seq (.flag (.zero, .zero, .computed, .computed))) s (s.loadHLSP e) :=
  s.setHLFlags_frame ⟨rfl, rfl, trivial, trivial⟩

theorem State.addSP_frame (e : Byte) :
    Frame ((Footprint.flag (.zero, .zero, .computed, .computed)).seq .onlySP) s (s.addSP e) :=
  have h : FlagEffects.Obeyed (.zero, .zero, .computed, .computed) s.flags (addSigned s.sp e).2 := ⟨rfl, rfl, trivial, trivial⟩
  (s.setFlags_frame h).trans (State.setSP_frame _ _) rfl

theorem State.daa_frame : Frame ((Footprint.reg .a).seq (.flag (.computed, .kept, .zero, .computed))) s s.daa :=
  s.setAFlags_frame ⟨trivial, rfl, rfl, trivial⟩

theorem State.cpl_frame : Frame ((Footprint.reg .a).seq (.flag (.kept, .one, .one, .kept))) s s.cpl :=
  s.setAFlags_frame ⟨rfl, rfl, rfl, rfl⟩

theorem State.scf_frame : Frame (.flag (.kept, .zero, .zero, .one)) s s.scf := s.setFlags_frame ⟨rfl, rfl, rfl, rfl⟩

theorem State.ccf_frame : Frame (.flag (.kept, .zero, .zero, .computed)) s s.ccf := s.setFlags_frame ⟨rfl, rfl, rfl, trivial⟩

end Sys2Proof.Machine
end

section
/-! PROOF. What every instruction may write: past its fetch it has a footprint that its row of the tables of 10_state.md R32 and R37 allows. -/

namespace Sys2Proof

/-! The row number of an instruction does not depend on its immediate. -/

theorem Instr.key_ldLocImm (x : Loc) (n : Byte) : (Instr.ldLocImm x n).key = (Instr.ldLocImm x 0).key := by
  rcases x with ⟨⟨⟩⟩ | _ <;> rfl

theorem Instr.key_aluImm (op : AluOp) (n : Byte) : (Instr.aluImm op n).key = (Instr.aluImm op 0).key := by cases op <;> rfl

theorem Instr.key_ldPairImm (rr : Pair) (nn : Word) : (Instr.ldPairImm rr nn).key = (Instr.ldPairImm rr 0).key := by cases rr <;> rfl

theorem Instr.key_jpCond (cc : Cond) (nn : Word) : (Instr.jpCond cc nn).key = (Instr.jpCond cc 0).key := by cases cc <;> rfl

theorem Instr.key_jrCond (cc : Cond) (e : Byte) : (Instr.jrCond cc e).key = (Instr.jrCond cc 0).key := by cases cc <;> rfl

theorem Instr.key_callCond (cc : Cond) (nn : Word) : (Instr.callCond cc nn).key = (Instr.callCond cc 0).key := by cases cc <;> rfl

end Sys2Proof

namespace Sys2Proof.Machine
open Sys2Proof.Claims

/-- The tables of the statements allow the row `key` to write all that the footprint lists, and give it these flag effects. -/
def Footprint.allowedBy (w : Footprint) (key : Nat) : Bool :=
  w.regs.all (writesReg · key) && w.flags == flagSummary key && (!w.sp || writesSP key) && (!w.pc || transfersControl key) &&
  (!w.ime || (key == 0xF3 || key == 0xFB || key == 0xD9)) && (!w.halt || key == 0x76) && (!w.stop || key == 0x10) &&
  (!w.lock || illegalKey key)

/-- The fetch moves PC past the bytes and spends the halt bug (30_encoding.md R101, R102). -/
theorem State.advance_eq_past (s : State) {len : Nat} (h : 0 < len) : s.advance len = past s len := by
  obtain ⟨n, rfl⟩ := Nat.exists_eq_succ_of_ne_zero h.ne'
  cases hb : s.haltBug with
  | true => simp [State.advance, State.pcPast, State.opcodeAdvance, past, hb]
  | false =>
    simp only [State.advance, State.pcPast, State.opcodeAdvance, past, hb, Bool.false_eq_true, if_false, Nat.succ_eq_add_one,
      Nat.add_sub_cancel, BitVec.ofNat_add]
    congr 1
    ac_rfl

/-- Every execution of `i` stays, past the fetch, within a footprint its row allows. -/
def HasFrame (i : Instr) : Prop :=
  ∃ w : Footprint, w.allowedBy i.key = true ∧ ∀ s t, exec i s = .next t → Frame w (past s (encode i).length) t

/-- An instruction that is an operation on the state past its fetch, and a reported count, has the operation's frame. -/
theorem hasFrame_of_op {i : Instr} {w : Footprint} {len : Nat} {op : State → State} (hop : ∀ s, Frame w (s.advance len) (op s))
    (hexec : ∀ s, ∃ k, exec i s = .next ((op s).report k)) (hrow : w.allowedBy i.key = true ∧ (encode i).length = len)
    (hpos : 0 < len := by decide) : HasFrame i := by
  obtain ⟨hkey, hlen⟩ := hrow
  refine ⟨w, hkey, fun s t h => ?_⟩
  obtain ⟨k, hk⟩ := hexec s
  cases hk.symm.trans h
  rw [hlen, ← s.advance_eq_past hpos]
  exact (hop s).report k

theorem hasFrame (i : Instr) : HasFrame i := by
  induction i using instr_by_family with
  | fam_ldRegReg dst src =>
    exact hasFrame_of_op (fun s => (s.advance 1).writeLoc_frame (.reg dst) _) (fun s => ⟨_, exec_ldRegReg dst src s⟩)
      (by cases dst <;> cases src <;> exact ⟨rfl, rfl⟩)
  | fam_ldLocImm x n =>
    exact hasFrame_of_op (fun s => (s.advance 2).writeLoc_frame x n) (fun s => ⟨_, exec_ldLocImm x n s⟩)
      (by rw [Instr.key_ldLocImm]; rcases x with ⟨⟨⟩⟩ | _ <;> exact ⟨rfl, rfl⟩)
  | fam_ldRegAtHL dst =>
    exact hasFrame_of_op (fun s => (s.advance 1).writeLoc_frame (.reg dst) _) (fun s => ⟨_, exec_ldRegAtHL dst s⟩)
      (by cases dst <;> exact ⟨rfl, rfl⟩)
  | fam_ldAtHLReg src =>
    exact hasFrame_of_op (fun s => (s.advance 1).writeLoc_frame .atHL _) (fun s => ⟨_, exec_ldAtHLReg src s⟩)
      (by cases src <;> exact ⟨rfl, rfl⟩)
  | fam_aluLoc op x =>
    exact hasFrame_of_op (fun s => (s.advance 1).alu_frame op _) (fun s => ⟨_, exec_aluLoc op x s⟩)
      (by cases op <;> rcases x with ⟨⟨⟩⟩ | _ <;> exact ⟨rfl, rfl⟩)
  | fam_aluImm op n =>
    exact hasFrame_of_op (fun s => (s.advance 2).alu_frame op n) (fun s => ⟨_, exec_aluImm op n s⟩)
      (by rw [Instr.key_aluImm]; cases op <;> exact ⟨rfl, rfl⟩)
  | fam_incLoc x =>
    exact hasFrame_of_op (fun s => (s.advance 1).inc_frame x) (fun s => ⟨_, exec_incLoc x s⟩)
      (by rcases x with ⟨⟨⟩⟩ | _ <;> exact ⟨rfl, rfl⟩)
  | fam_decLoc x =>
    exact hasFrame_of_op (fun s => (s.advance 1).dec_frame x) (fun s => ⟨_, exec_decLoc x s⟩)
      (by rcases x with ⟨⟨⟩⟩ | _ <;> exact ⟨rfl, rfl⟩)
  | fam_ldPairImm rr nn =>
    exact hasFrame_of_op (fun s => (s.advance 3).setPair_frame rr nn) (fun s => ⟨_, exec_ldPairImm rr nn s⟩)
      (by rw [Instr.key_ldPairImm]; cases rr <;> exact ⟨rfl, rfl⟩)
  | fam_addHLPair rr =>
    exact hasFrame_of_op (fun s => (s.advance 1).addHL_frame _) (fun s => ⟨_, exec_addHLPair rr s⟩)
      (by cases rr <;> exact ⟨rfl, rfl⟩)
  | fam_incPair rr =>
    exact hasFrame_of_op (fun s => (s.advance 1).setPair_frame rr _) (fun s => ⟨_, exec_incPair rr s⟩)
      (by cases rr <;> exact ⟨rfl, rfl⟩)
  | fam_decPair rr =>
    exact hasFrame_of_op (fun s => (s.advance 1).setPair_frame rr _) (fun s => ⟨_, exec_decPair rr s⟩)
      (by cases rr <;> exact ⟨rfl, rfl⟩)
  | fam_pushPair rr =>
    exact hasFrame_of_op (fun s => (s.advance 1).push16_frame _) (fun s => ⟨_, exec_pushPair rr s⟩)
      (by cases rr <;> exact ⟨rfl, rfl⟩)
  | fam_popPair rr =>
    exact hasFrame_of_op (fun s => (s.advance 1).pop_frame rr) (fun s => ⟨_, exec_popPair rr s⟩)
      (by cases rr <;> exact ⟨rfl, rfl⟩)
  | fam_jpCond cc nn =>
    exact hasFrame_of_op (fun s => (s.advance 3).whenCond_frame cc (State.jump_frame _ nn) rfl) (fun s => ⟨_, exec_jpCond cc nn s⟩)
      (by rw [Instr.key_jpCond]; cases cc <;> exact ⟨rfl, rfl⟩)
  | fam_jrCond cc e =>
    exact hasFrame_of_op (fun s => (s.advance 2).whenCond_frame cc (State.jumpRel_frame _ e) rfl) (fun s => ⟨_, exec_jrCond cc e s⟩)
      (by rw [Instr.key_jrCond]; cases cc <;> exact ⟨rfl, rfl⟩)
  | fam_callCond cc nn =>
    exact hasFrame_of_op (fun s => (s.advance 3).whenCond_frame cc (State.call_frame _ nn) rfl) (fun s => ⟨_, exec_callCond cc nn s⟩)
      (by rw [Instr.key_callCond]; cases cc <;> exact ⟨rfl, rfl⟩)
  | fam_retCond cc =>
    exact hasFrame_of_op (fun s => (s.advance 1).whenCond_frame cc (State.ret_frame _) rfl) (fun s => ⟨_, exec_retCond cc s⟩)
      (by cases cc <;> exact ⟨rfl, rfl⟩)
  | fam_rst y =>
    exact hasFrame_of_op (fun s => (s.advance 1).call_frame _) (fun s => ⟨_, exec_rst y s⟩) (by fin_cases y <;> exact ⟨rfl, rfl⟩)
  | fam_illegal x =>
    exact hasFrame_of_op (fun s => (s.advance 1).raiseIllegal_frame _ s.pc) (fun s => ⟨_, exec_illegal x s⟩)
      (by cases x <;> exact ⟨rfl, rfl⟩)
  | fam_rotLoc op x =>
    exact hasFrame_of_op (fun s => (s.advance 2).rot_frame op x) (fun s => ⟨_, exec_rotLoc op x s⟩)
      (by cases op <;> rcases x with ⟨⟨⟩⟩ | _ <;> exact ⟨rfl, rfl⟩)
  | fam_bitLoc y x =>
    exact hasFrame_of_op (fun s => (s.advance 2).bitTest_frame y.val x) (fun s => ⟨_, exec_bitLoc y x s⟩)
      (by fin_cases y <;> rcases x with ⟨⟨⟩⟩ | _ <;> exact ⟨rfl, rfl⟩)
  | fam_resLoc y x =>
    exact hasFrame_of_op (fun s => (s.advance 2).writeLoc_frame x _) (fun s => ⟨_, exec_resLoc y x s⟩)
      (by fin_cases y <;> rcases x with ⟨⟨⟩⟩ | _ <;> exact ⟨rfl, rfl⟩)
  | fam_setLoc y x =>
    exact hasFrame_of_op (fun s => (s.advance 2).writeLoc_frame x _) (fun s => ⟨_, exec_setLoc y x s⟩)
      (by fin_cases y <;> rcases x with ⟨⟨⟩⟩ | _ <;> exact ⟨rfl, rfl⟩)
  | fam_nop => exact hasFrame_of_op (fun s => .refl (s.advance 1)) (fun _ => ⟨_, rfl⟩) ⟨rfl, rfl⟩
  | fam_ld_atBC_a => exact hasFrame_of_op (fun s => (s.advance 1).storeA_frame s.bc) (fun _ => ⟨_, rfl⟩) ⟨rfl, rfl⟩
  | fam_rlca => exact hasFrame_of_op (fun s => (s.advance 1).rotA_frame .rlc) (fun _ => ⟨_, rfl⟩) ⟨rfl, rfl⟩
  | fam_ld_atNN_sp nn =>
    exact hasFrame_of_op (fun s => (s.advance 3).storeSP_frame nn) (fun _ => ⟨_, rfl⟩) (by rw [Instr.key_ld_atNN_sp]; exact ⟨rfl, rfl⟩)
  | fam_ld_a_atBC => exact hasFrame_of_op (fun s => (s.advance 1).loadA_frame s.bc) (fun _ => ⟨_, rfl⟩) ⟨rfl, rfl⟩
  | fam_rrca => exact hasFrame_of_op (fun s => (s.advance 1).rotA_frame .rrc) (fun _ => ⟨_, rfl⟩) ⟨rfl, rfl⟩
  | fam_stop x => exact hasFrame_of_op (fun s => (s.advance 2).stop_frame) (fun _ => ⟨_, rfl⟩) (by rw [Instr.key_stop]; exact ⟨rfl, rfl⟩)
  | fam_ld_atDE_a => exact hasFrame_of_op (fun s => (s.advance 1).storeA_frame s.de) (fun _ => ⟨_, rfl⟩) ⟨rfl, rfl⟩
  | fam_rla => exact hasFrame_of_op (fun s => (s.advance 1).rotA_frame .rl) (fun _ => ⟨_, rfl⟩) ⟨rfl, rfl⟩
  | fam_jr_e e =>
    exact hasFrame_of_op (fun s => (s.advance 2).jumpRel_frame e) (fun _ => ⟨_, rfl⟩) (by rw [Instr.key_jr_e]; exact ⟨rfl, rfl⟩)
  | fam_ld_a_atDE => exact hasFrame_of_op (fun s => (s.advance 1).loadA_frame s.de) (fun _ => ⟨_, rfl⟩) ⟨rfl, rfl⟩
  | fam_rra => exact hasFrame_of_op (fun s => (s.advance 1).rotA_frame .rr) (fun _ => ⟨_, rfl⟩) ⟨rfl, rfl⟩
  | fam_ld_atHLI_a =>
    exact hasFrame_of_op (fun s => ((s.advance 1).storeA_frame s.hl).trans (State.setPair_frame _ .hl (s.hl + 1)) rfl)
      (fun _ => ⟨_, rfl⟩) ⟨rfl, rfl⟩
  | fam_daa => exact hasFrame_of_op (fun s => (s.advance 1).daa_frame) (fun _ => ⟨_, rfl⟩) ⟨rfl, rfl⟩
  | fam_ld_a_atHLI =>
    exact hasFrame_of_op (fun s => ((s.advance 1).loadA_frame s.hl).trans (State.setPair_frame _ .hl (s.hl + 1)) rfl)
      (fun _ => ⟨_, rfl⟩) ⟨rfl, rfl⟩
  | fam_cpl => exact hasFrame_of_op (fun s => (s.advance 1).cpl_frame) (fun _ => ⟨_, rfl⟩) ⟨rfl, rfl⟩
  | fam_ld_atHLD_a =>
    exact hasFrame_of_op (fun s => ((s.advance 1).storeA_frame s.hl).trans (State.setPair_frame _ .hl (s.hl - 1)) rfl)
      (fun _ => ⟨_, rfl⟩) ⟨rfl, rfl⟩
  | fam_scf => exact hasFrame_of_op (fun s => (s.advance 1).scf_frame) (fun _ => ⟨_, rfl⟩) ⟨rfl, rfl⟩
  | fam_ld_a_atHLD =>
    exact hasFrame_of_op (fun s => ((s.advance 1).loadA_frame s.hl).trans (State.setPair_frame _ .hl (s.hl - 1)) rfl)
      (fun _ => ⟨_, rfl⟩) ⟨rfl, rfl⟩
  | fam_ccf => exact hasFrame_of_op (fun s => (s.advance 1).ccf_frame) (fun _ => ⟨_, rfl⟩) ⟨rfl, rfl⟩
  | fam_halt => exact hasFrame_of_op (fun s => (s.advance 1).halt_frame) (fun _ => ⟨_, rfl⟩) ⟨rfl, rfl⟩
  | fam_jp_nn nn =>
    exact hasFrame_of_op (fun s => (s.advance 3).jump_frame nn) (fun _ => ⟨_, rfl⟩) (by rw [Instr.key_jp_nn]; exact ⟨rfl, rfl⟩)
  | fam_ret => exact hasFrame_of_op (fun s => (s.advance 1).ret_frame) (fun _ => ⟨_, rfl⟩) ⟨rfl, rfl⟩
  | fam_call_nn nn =>
    exact hasFrame_of_op (fun s => (s.advance 3).call_frame nn) (fun _ => ⟨_, rfl⟩) (by rw [Instr.key_call_nn]; exact ⟨rfl, rfl⟩)
  | fam_reti => exact hasFrame_of_op (fun s => (s.advance 1).returnFromInterrupt_frame) (fun _ => ⟨_, rfl⟩) ⟨rfl, rfl⟩
  | fam_ldh_atN_a n =>
    exact hasFrame_of_op (fun s => (s.advance 2).storeA_frame (highPage n)) (fun _ => ⟨_, rfl⟩)
      (by rw [Instr.key_ldh_atN_a]; exact ⟨rfl, rfl⟩)
  | fam_ld_atC_a => exact hasFrame_of_op (fun s => (s.advance 1).storeA_frame (highPage s.c)) (fun _ => ⟨_, rfl⟩) ⟨rfl, rfl⟩
  | fam_add_sp_e e =>
    exact hasFrame_of_op (fun s => (s.advance 2).addSP_frame e) (fun _ => ⟨_, rfl⟩) (by rw [Instr.key_add_sp_e]; exact ⟨rfl, rfl⟩)
  | fam_jp_hl => exact hasFrame_of_op (fun s => (s.advance 1).jump_frame s.hl) (fun _ => ⟨_, rfl⟩) ⟨rfl, rfl⟩
  | fam_ld_atNN_a nn =>
    exact hasFrame_of_op (fun s => (s.advance 3).storeA_frame nn) (fun _ => ⟨_, rfl⟩) (by rw [Instr.key_ld_atNN_a]; exact ⟨rfl, rfl⟩)
  | fam_ldh_a_atN n =>
    exact hasFrame_of_op (fun s => (s.advance 2).loadA_frame (highPage n)) (fun _ => ⟨_, rfl⟩)
      (by rw [Instr.key_ldh_a_atN]; exact ⟨rfl, rfl⟩)
  | fam_ld_a_atC => exact hasFrame_of_op (fun s => (s.advance 1).loadA_frame (highPage s.c)) (fun _ => ⟨_, rfl⟩) ⟨rfl, rfl⟩
  | fam_di => exact hasFrame_of_op (fun s => (s.advance 1).setIME_frame false) (fun _ => ⟨_, rfl⟩) ⟨rfl, rfl⟩
  | fam_ld_hl_sp_e e =>
    exact hasFrame_of_op (fun s => (s.advance 2).loadHLSP_frame e) (fun _ => ⟨_, rfl⟩)
      (by rw [Instr.key_ld_hl_sp_e]; exact ⟨rfl, rfl⟩)
  | fam_ld_sp_hl => exact hasFrame_of_op (fun s => (s.advance 1).setPair_frame .sp s.hl) (fun _ => ⟨_, rfl⟩) ⟨rfl, rfl⟩
  | fam_ld_a_atNN nn =>
    exact hasFrame_of_op (fun s => (s.advance 3).loadA_frame nn) (fun _ => ⟨_, rfl⟩) (by rw [Instr.key_ld_a_atNN]; exact ⟨rfl, rfl⟩)
  | fam_ei => exact hasFrame_of_op (fun s => (s.advance 1).setIME_frame true) (fun _ => ⟨_, rfl⟩) ⟨rfl, rfl⟩

end Sys2Proof.Machine
end

section
/-! PROOF. The statements about the state: the registers and their views, the flags, who writes what, the reset and the invariant. -/

namespace Sys2Proof
open Sys2Proof.Claims

/-! ### Words and their bytes as numbers -/

theorem hiByte_eq_byte (w : Word) : hiByte w = byte (w.toNat / 256) := by
  apply BitVec.eq_of_toNat_eq
  have := w.isLt
  rw [hiByte_toNat, byte, BitVec.toNat_ofNat]
  omega

theorem loByte_eq_byte (w : Word) : loByte w = byte w.toNat := by
  apply BitVec.eq_of_toNat_eq
  rw [loByte_toNat, byte, BitVec.toNat_ofNat]

theorem joinBytes_eq_ofNat (hi lo : Byte) : joinBytes hi lo = BitVec.ofNat 16 (hi.toNat * 256 + lo.toNat) := by
  apply BitVec.eq_of_toNat_eq
  have := hi.isLt
  have := lo.isLt
  rw [joinBytes_toNat, BitVec.toNat_ofNat]
  omega

/-- F's byte by the weights of its bits (10_state.md R34). -/
theorem Flags.toByte_eq_byte (f : Flags) : f.toByte = byte (128 * bit f.z + 64 * bit f.n + 32 * bit f.h + 16 * bit f.c) := by
  obtain ⟨z, n, h, c⟩ := f
  cases z <;> cases n <;> cases h <;> cases c <;> rfl

/-- A write of F keeps bits 7 to 4 (10_state.md R35). -/
theorem Flags.toByte_ofByte (v : Byte) : (Flags.ofByte v).toByte = v &&& 0xF0 := by
  revert v
  decide

theorem joinBytes_and (hi lo hi' lo' : Byte) : joinBytes hi lo &&& joinBytes hi' lo' = joinBytes (hi &&& hi') (lo &&& lo') :=
  BitVec.and_append

end Sys2Proof

namespace Sys2Proof.Machine
open Sys2Proof.Claims

/-- Settles O35: a write of one register is read back there and nowhere else, and a pair is its two halves. -/
theorem registerWritesAreIsolated : Obligations.RegisterWritesAreIsolated := by
  intro s v w
  refine ⟨fun r q => s.getReg_setReg r q v, fun r => by cases r <;> rfl, ?_, ?_, ?_, rfl, joinBytes_eq_ofNat s.b s.c,
    joinBytes_eq_ofNat s.d s.e, joinBytes_eq_ofNat s.h s.l, rfl⟩
  · rw [← hiByte_eq_byte, ← loByte_eq_byte]; rfl
  · rw [← hiByte_eq_byte, ← loByte_eq_byte]; rfl
  · rw [← hiByte_eq_byte, ← loByte_eq_byte]; rfl

/-- Settles O36: AF is A over F's byte, a write of it masks the low nibble, and what AF reads as is written back unchanged. -/
theorem flagRegisterLayout : Obligations.FlagRegisterLayout := by
  intro s w
  refine ⟨?_, ?_, ?_⟩
  · rw [← Flags.toByte_eq_byte]; rfl
  · calc joinBytes (hiByte w) (Flags.ofByte (loByte w)).toByte
      _ = joinBytes (hiByte w &&& .allOnes 8) (loByte w &&& 0xF0) := by rw [Flags.toByte_ofByte, BitVec.and_allOnes]
      _ = w &&& 0xFFF0 := by rw [← joinBytes_and, joinBytes_hiByte_loByte]; rfl
  · simp [State.setStackPair, State.getStackPair, State.setAF, State.af]

/-- Settles O58: each profile's field values, with the bus and the parameters as they were. -/
theorem resetValues : Obligations.ResetValues := fun _ _ _ => ⟨rfl, rfl, rfl⟩

/-- Both profiles leave the core in the state Running (10_state.md R55, R56). -/
theorem State.resetTo_running (profile : ResetProfile) (ime : Bool) (p : Params) (bus : BusState) :
    (State.resetTo profile ime p bus).Running := by
  cases profile <;> exact ⟨rfl, rfl, rfl, rfl, rfl⟩

/-- DIV's accumulator is 0xCC or 0, and the countdown 1024. -/
theorem State.resetTo_timerInRange (profile : ResetProfile) (ime : Bool) (p : Params) (bus : BusState) :
    (State.resetTo profile ime p bus).TimerInRange := by
  cases profile <;> simp [State.resetTo, State.TimerInRange]

theorem State.resetTo_bus (profile : ResetProfile) (ime : Bool) (p : Params) (bus : BusState) :
    (State.resetTo profile ime p bus).bus = bus := by
  cases profile <;> rfl

/-- Settles O56: the reset core is running, its timer in range, and the bus the one given. -/
theorem resetHasTheInvariant : Obligations.ResetHasTheInvariant := fun profile ime p bus hbus =>
  ⟨(State.resetTo_bus profile ime p bus).symm ▸ hbus, State.resetTo_timerInRange profile ime p bus,
    (State.resetTo_running profile ime p bus).modesExclusive⟩

/-! ### What an instruction writes -/

/-- Settles O51: the footprint of the instruction has the flag effects of its row. -/
theorem flagWritingSummary : Obligations.FlagWritingSummary := by
  intro i s t h
  obtain ⟨w, hrow, hframe⟩ := hasFrame i
  have hflags : w.flags = flagSummary i.key := by simp_all [Footprint.allowedBy]
  exact hflags ▸ (hframe s t h).flags

/-- Settles O54: the footprint of the instruction lists only what the tables allow its row. -/
theorem registerWriters : Obligations.RegisterWriters := by
  intro i s t h
  obtain ⟨w, hrow, hframe⟩ := hasFrame i
  have frame := hframe s t h
  simp only [Footprint.allowedBy, Bool.and_eq_true, List.all_eq_true] at hrow
  obtain ⟨⟨⟨⟨⟨⟨⟨hregs, -⟩, hsp⟩, hpc⟩, hime⟩, hhalt⟩, hstop⟩, hlock⟩ := hrow
  refine ⟨fun r hr => ?_, fun hk => frame.sp (by simpa [hk] using hsp), fun hk => frame.pc (by simpa [hk] using hpc),
    fun hdi hei hreti => frame.ime (by simpa [hdi, hei, hreti] using hime), fun hk => frame.halt (by simpa [hk] using hhalt),
    fun hk => frame.stop (by simpa [hk] using hstop), fun hk => frame.lock (by simpa [hk] using hlock), frame.params, frame.isFlatRam⟩
  have hpast : (past s (encode i).length).getReg r = s.getReg r := rfl
  exact (frame.regs r fun hmem => by simp [hregs r hmem] at hr).trans hpast

/-! ### The invariant -/

/-- TimerAdvance writes no bus and no execution state. -/
theorem State.timerAdvance_inv {s : State} (h : s.Inv) (k : Nat) : (s.timerAdvance k).Inv := by
  obtain ⟨hwf, ⟨_, h1, h2⟩, hmodes⟩ := h
  exact ⟨by simpa using hwf, s.timerAdvance_range k h1 h2, by simpa [State.ModesExclusive] using hmodes⟩

theorem State.report_inv {s : State} (h : s.Inv) (k : Nat) : (s.report k).Inv := h

theorem State.wake_inv {s : State} (h : s.Inv) : s.wake.Inv := by
  unfold State.wake
  split
  · obtain ⟨hwf, htimer, _, hbug, hlocked, hfault⟩ := h
    exact ⟨hwf, htimer, nofun, hbug, fun hl => ⟨rfl, (hlocked hl).2⟩, hfault⟩
  · exact h

/-- A dispatch pushes PC, and clears IME and a request. -/
theorem State.dispatch_inv {s : State} (h : s.Inv) (i : Fin 5) : (s.dispatch i).Inv := by
  obtain ⟨hwf, htimer, hhalted, hbug, hlocked, hfault⟩ := h
  refine ⟨State.push16_wf _ _ hwf, State.push16_range _ _ htimer, ?_⟩
  simpa [State.dispatch, State.ModesExclusive] using ⟨hhalted, fun hb => (hbug hb).1, hlocked, hfault⟩

/-- An instruction executed in a core with none of `halted`, `stopped` and `locked` keeps the invariant: the fetch spends the halt
bug, so past it the core is running. -/
theorem exec_inv {i : Instr} {s t : State} (hs : s.Inv) (hhalted : s.halted = false) (hstopped : s.stopped = false)
    (hlocked : s.locked = false) (h : exec i s = .next t) : t.Inv := by
  obtain ⟨w, -, hframe⟩ := hasFrame i
  have frame := hframe s t h
  obtain ⟨hwf, htimer, _, _, _, hfault⟩ := hs
  obtain ⟨hwf', htimer'⟩ := frame.memory ⟨hwf, htimer⟩
  have hnone : s.fault = none := by simpa [hlocked] using hfault
  have hrun : (past s (encode i).length).Running := ⟨hhalted, rfl, hstopped, hlocked, hnone⟩
  exact ⟨hwf', htimer', frame.modesExclusive hrun⟩

/-- Settles O55: each of the five kinds of step keeps the invariant, an instruction because past its fetch the core is running. -/
theorem stepKeepsTheInvariant : Obligations.StepKeepsTheInvariant := by
  intro s t hs h
  rcases step_cases h with ⟨-, rfl⟩ | ⟨-, rfl⟩ | ⟨i, -, rfl⟩ | ⟨-, rfl⟩ | ⟨hphase, u, hexec, rfl⟩
  · exact State.timerAdvance_inv (State.report_inv hs 4) 4
  · exact State.report_inv hs 4
  · exact State.timerAdvance_inv (State.report_inv (State.dispatch_inv (State.wake_inv hs) i) 20) 20
  · exact State.timerAdvance_inv (State.report_inv hs 4) 4
  · obtain ⟨hlocked, hstopped⟩ := running_of_phase s (by simp [hphase]) (by simp [hphase])
    obtain ⟨hhalted, -⟩ := awake_of_instruction s hphase
    exact State.timerAdvance_inv (exec_inv (State.wake_inv hs) hhalted (by simpa) (by simpa) hexec) u.cycles

end Sys2Proof.Machine
end

section
/-! PROOF. That a read gives the last write; and the memory frame: what each operation may change of what memory reads, in the sense of
`OnlyAt`, and with it every instruction (20_memory.md R73, R74, R77, R83). -/

namespace Sys2Proof.Claims
open Sys2Proof.Machine

variable {l l' : List Word} {s t u : State}

/-- So, by the definitions, of an operation that writes neither a block register nor the bus. -/
theorem OnlyAt.refl (s : State) : OnlyAt [] s s := ⟨fun _ _ _ => rfl, fun _ => rfl⟩

theorem OnlyAt.mono (h : OnlyAt l s t) (hl : l ⊆ l') : OnlyAt l' s t := by
  obtain ⟨hread, hbus⟩ := h
  have hblock : (∀ x ∈ l', blockReg? x ≠ none) → ∀ x ∈ l, blockReg? x ≠ none := fun hl' x hx => hl' x (hl hx)
  exact ⟨fun a ha hs => hread a (fun hx => ha (hl hx)) (hs.imp_right (Or.imp_right hblock)), fun hl' => hbus (hblock hl')⟩

/-- One store operation after another, where the first leaves BUS what it is. -/
theorem OnlyAt.trans (h : OnlyAt l s t) (h' : OnlyAt l' t u) (hflat : t.bus.isFlatRam = s.bus.isFlatRam) :
    OnlyAt (l ++ l') s u := by
  obtain ⟨hread, hbus⟩ := h
  obtain ⟨hread', hbus'⟩ := h'
  constructor
  · intro a ha hs
    rw [List.mem_append, not_or] at ha
    rw [List.forall_mem_append] at hs
    calc u.memRead a
      _ = t.memRead a := hread' a ha.2 (hflat ▸ hs.imp_right (Or.imp_right And.right))
      _ = s.memRead a := hread a ha.1 (hs.imp_right (Or.imp_right And.left))
  · intro hl
    rw [List.forall_mem_append] at hl
    exact (hbus' hl.2).trans (hbus hl.1)

end Sys2Proof.Claims

namespace Sys2Proof.Machine
open Sys2Proof.Claims

/-! ### A read after a store -/

/-- The bus answers at no block register's address. -/
theorem ne_address_of_bus {a : Word} (h : blockReg? a = none) (r : BlockReg) : a ≠ r.address := by
  rintro rfl
  simp at h

theorem readBack_of_bus {a : Word} (h : blockReg? a = none) (v : Byte) : readBack a v = v := by
  have hdiv : a ≠ 0xFF04 := ne_address_of_bus h .div
  have htac : a ≠ 0xFF07 := ne_address_of_bus h .tac
  have hiflag : a ≠ 0xFF0F := ne_address_of_bus h .iflag
  rw [readBack, if_neg hdiv, if_neg htac, if_neg hiflag]

/-- The bits TAC does not store are those that read as 1. -/
theorem tac_readBack (v : Byte) : 0xF8 ||| (v.setWidth 3).setWidth 8 = 0xF8 ||| v := by
  revert v
  decide

/-- The bits IF does not store are those that read as 1. -/
theorem iflag_readBack (v : Byte) : 0xE0 ||| (v.setWidth 5).setWidth 8 = 0xE0 ||| v := by
  revert v
  decide

theorem State.readBlock_writeBlock_same (s : State) (r : BlockReg) (v : Byte) :
    (s.writeBlock r v).readBlock r = readBack r.address v := by
  cases r with
  | tac => exact tac_readBack v
  | iflag => exact iflag_readBack v
  | _ => rfl

/-- A store is read back at its address, if BUS is FLAT_RAM or if the address is a block register's. -/
theorem State.memRead_memWrite_same (s : State) (a : Word) (v : Byte) (hs : s.bus.isFlatRam = true ∨ blockReg? a ≠ none) :
    (s.memWrite a v).memRead a = readBack a v := by
  cases ha : blockReg? a with
  | none =>
    have hflat : s.bus.isFlatRam = true := by simpa [ha] using hs
    rw [State.memWrite_of_bus s a v ha, State.memRead_of_bus _ a ha, busRead_busWrite _ _ _ _ hflat, if_pos rfl, readBack_of_bus ha]
  | some r =>
    obtain rfl := (blockReg?_eq_some_iff a r).1 ha
    rw [State.memWrite_of_block s _ v r ha, State.memRead, ha]
    exact s.readBlock_writeBlock_same r v

/-- Settles O38: the bus answers outside the block registers, and a store is read back at its address and nowhere else. -/
theorem readAfterWrite : Obligations.ReadAfterWrite := by
  intro s a v
  refine ⟨fun ha => ⟨s.memRead_of_bus a ha, s.memWrite_of_bus a v ha⟩, fun hs x => ?_⟩
  split
  · next hx => rw [hx, s.memRead_memWrite_same a v hs]
  · next hx => exact s.memRead_memWrite_other a x v hx (hs.imp_right Or.inr)

section
variable (s : State)

/-! ### The operations that store -/

theorem State.memWrite_onlyAt (a : Word) (v : Byte) : OnlyAt [a] s (s.memWrite a v) := by
  constructor
  · intro x hx hs
    rw [List.forall_mem_singleton] at hs
    exact s.memRead_memWrite_other a x v (by simpa using hx) hs
  · intro ha
    exact s.memWrite_bus_of_block a v (ha a List.mem_cons_self)

/-- Two stores, as LD (nn),SP and a push make them (20_memory.md R77). -/
theorem State.memWrite_memWrite_onlyAt (a a' : Word) (v v' : Byte) : OnlyAt [a, a'] s ((s.memWrite a v).memWrite a' v') :=
  (s.memWrite_onlyAt a v).trans (State.memWrite_onlyAt _ a' v') (s.memWrite_isFlatRam a v)

theorem State.push16_onlyAt (v : Word) : OnlyAt [s.sp - 1, s.sp - 2] s (s.push16 v) := by
  rw [State.push16_eq]
  exact s.memWrite_memWrite_onlyAt _ _ _ _

theorem State.call_onlyAt (target : Word) : OnlyAt [s.sp - 1, s.sp - 2] s (s.call target) := s.push16_onlyAt s.pc

/-- STOP clears DIV and its accumulator as a store to 0xFF04 does. -/
theorem State.stop_onlyAt : OnlyAt [0xFF04] s s.stop := s.memWrite_onlyAt 0xFF04 0

theorem State.setReg_onlyAt (r : Reg8) (v : Byte) : OnlyAt [] s (s.setReg r v) := by
  cases r <;> exact .refl s

/-- Where a write of an operand field stores, HL being as given. -/
def storesOfLoc : Loc → Word → List Word
  | .reg _, _ => []
  | .atHL, hl => [hl]

theorem State.writeLoc_onlyAt (x : Loc) (v : Byte) : OnlyAt (storesOfLoc x s.hl) s (s.writeLoc x v) := by
  cases x with
  | reg r => exact s.setReg_onlyAt r v
  | atHL => exact s.memWrite_onlyAt s.hl v

/-! ### The operations that store nothing -/

theorem State.setPair_onlyAt (rr : Pair) (v : Word) : OnlyAt [] s (s.setPair rr v) := by
  cases rr <;> exact .refl s

theorem State.pop_onlyAt (rr : StackPair) : OnlyAt [] s (s.pop rr) := by
  cases rr <;> exact .refl s

theorem State.halt_onlyAt : OnlyAt [] s s.halt := by
  unfold State.halt
  split <;> exact .refl s

/-- A conditional instruction stores where its taken path does, or nowhere. -/
theorem State.whenCond_onlyAt {l : List Word} (cc : Cond) {op : State → State} (hop : OnlyAt l s (op s)) :
    OnlyAt (if s.cond cc then l else []) s (s.whenCond cc op) := by
  unfold State.whenCond
  split
  · exact hop
  · exact .refl s

theorem State.whenCond_noStore (cc : Cond) {op : State → State} (hop : OnlyAt [] s (op s)) : OnlyAt [] s (s.whenCond cc op) := by
  simpa using s.whenCond_onlyAt cc hop

end

/-! ### The instructions -/

/-- Every execution of `i` changes memory at its store addresses alone. -/
def MemoryFramed (i : Instr) : Prop := ∀ s t, exec i s = .next t → OnlyAt (storeAddresses i s) s t

/-- An instruction that is an operation and a reported count stores where the operation does: the count is not of memory (nor is the
fetch, so that an operation past it is one from `s`, by the definitions). -/
theorem memoryFramed_of_op {i : Instr} {op : State → State} {stores : State → List Word}
    (hexec : ∀ s, ∃ k, exec i s = .next ((op s).report k)) (hop : ∀ s, OnlyAt (stores s) s (op s))
    (hstores : ∀ s, stores s ⊆ storeAddresses i s) : MemoryFramed i := by
  intro s t h
  obtain ⟨k, hk⟩ := hexec s
  cases hk.symm.trans h
  have hreport : OnlyAt (stores s) s ((op s).report k) := hop s
  exact hreport.mono (hstores s)

/-- The same where the operation stores at all the instruction's store addresses. -/
theorem memoryFramed_of_stores {i : Instr} {op : State → State} {stores : State → List Word}
    (hexec : ∀ s, ∃ k, exec i s = .next ((op s).report k)) (hop : ∀ s, OnlyAt (stores s) s (op s))
    (hstores : ∀ s, storeAddresses i s = stores s) : MemoryFramed i :=
  memoryFramed_of_op hexec hop fun s => hstores s ▸ List.Subset.refl _

/-- An instruction whose operation stores nothing is framed, whatever its store addresses. -/
theorem memoryFramed_of_noStore {i : Instr} {op : State → State}
    (hexec : ∀ s, ∃ k, exec i s = .next ((op s).report k)) (hop : ∀ s, OnlyAt [] s (op s)) : MemoryFramed i :=
  memoryFramed_of_op hexec hop fun _ => List.nil_subset _

/-- A family over an operand field needs a store address for its (HL) form alone. -/
theorem storesOfLoc_subset {family : Loc → Instr} {s : State} (h : storeAddresses (family .atHL) s = [s.hl]) (x : Loc) :
    storesOfLoc x s.hl ⊆ storeAddresses (family x) s := by
  cases x with
  | reg r => exact List.nil_subset _
  | atHL => exact h ▸ List.Subset.refl _

theorem storeAddresses_ldAtHLReg (src : Reg8) (s : State) : storeAddresses (.ldAtHLReg src) s = [s.hl] := by cases src <;> rfl

theorem storeAddresses_rotLoc_atHL (op : RotOp) (s : State) : storeAddresses (.rotLoc op .atHL) s = [s.hl] := by cases op <;> rfl

theorem storeAddresses_resLoc_atHL (y : Fin 8) (s : State) : storeAddresses (.resLoc y .atHL) s = [s.hl] := by fin_cases y <;> rfl

theorem storeAddresses_setLoc_atHL (y : Fin 8) (s : State) : storeAddresses (.setLoc y .atHL) s = [s.hl] := by fin_cases y <;> rfl

theorem storeAddresses_pushPair (rr : StackPair) (s : State) : storeAddresses (.pushPair rr) s = [s.sp - 1, s.sp - 2] := by
  cases rr <;> rfl

theorem storeAddresses_rst (y : Fin 8) (s : State) : storeAddresses (.rst y) s = [s.sp - 1, s.sp - 2] := by fin_cases y <;> rfl

/-- A conditional call pushes when its condition holds. -/
theorem storeAddresses_callCond (cc : Cond) (nn : Word) (s : State) :
    storeAddresses (.callCond cc nn) s = if s.cond cc then [s.sp - 1, s.sp - 2] else [] := by
  cases cc with
  | z | c => rfl
  | nz | nc => simp [storeAddresses, Instr.callCond, State.cond]

/-- The high page as an address whose high byte is 0xFF. -/
theorem highPage_eq_append (n : Byte) : highPage n = 0xFF#8 ++ n := by
  revert n
  decide

theorem storeAddresses_ldh_atN_a (n : Byte) (s : State) : storeAddresses (.ldh_atN_a n) s = [highPage n] := by
  rw [highPage_eq_append]; rfl

theorem storeAddresses_ld_atC_a (s : State) : storeAddresses .ld_atC_a s = [highPage s.c] := by
  rw [highPage_eq_append]; rfl

theorem memoryFramed (i : Instr) : MemoryFramed i := by
  induction i using instr_by_family with
  | fam_ldRegReg dst src =>
    exact memoryFramed_of_noStore (fun s => ⟨_, exec_ldRegReg dst src s⟩) fun s => (s.advance 1).setReg_onlyAt dst _
  | fam_ldLocImm x n =>
    exact memoryFramed_of_op (fun s => ⟨_, exec_ldLocImm x n s⟩) (fun s => (s.advance 2).writeLoc_onlyAt x n)
      fun s => storesOfLoc_subset (s := s) (family := (.ldLocImm · n)) rfl x
  | fam_ldRegAtHL dst =>
    exact memoryFramed_of_noStore (fun s => ⟨_, exec_ldRegAtHL dst s⟩) fun s => (s.advance 1).setReg_onlyAt dst _
  | fam_ldAtHLReg src =>
    exact memoryFramed_of_stores (fun s => ⟨_, exec_ldAtHLReg src s⟩) (fun s => (s.advance 1).memWrite_onlyAt s.hl _)
      (storeAddresses_ldAtHLReg src)
  | fam_aluLoc op x => exact memoryFramed_of_noStore (fun s => ⟨_, exec_aluLoc op x s⟩) fun s => .refl s
  | fam_aluImm op n => exact memoryFramed_of_noStore (fun s => ⟨_, exec_aluImm op n s⟩) fun s => .refl s
  | fam_incLoc x =>
    exact memoryFramed_of_op (fun s => ⟨_, exec_incLoc x s⟩) (fun s => (s.advance 1).writeLoc_onlyAt x _)
      fun s => storesOfLoc_subset (s := s) (family := .incLoc) rfl x
  | fam_decLoc x =>
    exact memoryFramed_of_op (fun s => ⟨_, exec_decLoc x s⟩) (fun s => (s.advance 1).writeLoc_onlyAt x _)
      fun s => storesOfLoc_subset (s := s) (family := .decLoc) rfl x
  | fam_ldPairImm rr nn =>
    exact memoryFramed_of_noStore (fun s => ⟨_, exec_ldPairImm rr nn s⟩) fun s => (s.advance 3).setPair_onlyAt rr nn
  | fam_addHLPair rr => exact memoryFramed_of_noStore (fun s => ⟨_, exec_addHLPair rr s⟩) fun s => .refl s
  | fam_incPair rr => exact memoryFramed_of_noStore (fun s => ⟨_, exec_incPair rr s⟩) fun s => (s.advance 1).setPair_onlyAt rr _
  | fam_decPair rr => exact memoryFramed_of_noStore (fun s => ⟨_, exec_decPair rr s⟩) fun s => (s.advance 1).setPair_onlyAt rr _
  | fam_pushPair rr =>
    exact memoryFramed_of_stores (fun s => ⟨_, exec_pushPair rr s⟩) (fun s => (s.advance 1).push16_onlyAt _)
      (storeAddresses_pushPair rr)
  | fam_popPair rr => exact memoryFramed_of_noStore (fun s => ⟨_, exec_popPair rr s⟩) fun s => (s.advance 1).pop_onlyAt rr
  | fam_jpCond cc nn =>
    exact memoryFramed_of_noStore (fun s => ⟨_, exec_jpCond cc nn s⟩) fun s => (s.advance 3).whenCond_noStore cc (.refl _)
  | fam_jrCond cc e =>
    exact memoryFramed_of_noStore (fun s => ⟨_, exec_jrCond cc e s⟩) fun s => (s.advance 2).whenCond_noStore cc (.refl _)
  | fam_callCond cc nn =>
    exact memoryFramed_of_stores (fun s => ⟨_, exec_callCond cc nn s⟩)
      (fun s => (s.advance 3).whenCond_onlyAt cc ((s.advance 3).call_onlyAt nn)) (storeAddresses_callCond cc nn)
  | fam_retCond cc =>
    exact memoryFramed_of_noStore (fun s => ⟨_, exec_retCond cc s⟩) fun s => (s.advance 1).whenCond_noStore cc (.refl _)
  | fam_rst y =>
    exact memoryFramed_of_stores (fun s => ⟨_, exec_rst y s⟩) (fun s => (s.advance 1).call_onlyAt _) (storeAddresses_rst y)
  | fam_illegal x => exact memoryFramed_of_noStore (fun s => ⟨_, exec_illegal x s⟩) fun s => .refl s
  | fam_rotLoc op x =>
    exact memoryFramed_of_op (fun s => ⟨_, exec_rotLoc op x s⟩) (fun s => (s.advance 2).writeLoc_onlyAt x _)
      fun s => storesOfLoc_subset (storeAddresses_rotLoc_atHL op s) x
  | fam_bitLoc y x => exact memoryFramed_of_noStore (fun s => ⟨_, exec_bitLoc y x s⟩) fun s => .refl s
  | fam_resLoc y x =>
    exact memoryFramed_of_op (fun s => ⟨_, exec_resLoc y x s⟩) (fun s => (s.advance 2).writeLoc_onlyAt x _)
      fun s => storesOfLoc_subset (storeAddresses_resLoc_atHL y s) x
  | fam_setLoc y x =>
    exact memoryFramed_of_op (fun s => ⟨_, exec_setLoc y x s⟩) (fun s => (s.advance 2).writeLoc_onlyAt x _)
      fun s => storesOfLoc_subset (storeAddresses_setLoc_atHL y s) x
  | fam_ld_atBC_a =>
    exact memoryFramed_of_stores (fun _ => ⟨_, rfl⟩) (fun s => (s.advance 1).memWrite_onlyAt s.bc s.a) fun _ => rfl
  | fam_ld_atDE_a =>
    exact memoryFramed_of_stores (fun _ => ⟨_, rfl⟩) (fun s => (s.advance 1).memWrite_onlyAt s.de s.a) fun _ => rfl
  | fam_ld_atNN_sp nn =>
    exact memoryFramed_of_stores (fun _ => ⟨_, rfl⟩) (fun s => (s.advance 3).memWrite_memWrite_onlyAt nn (nn + 1) _ _)
      fun _ => rfl
  | fam_stop x => exact memoryFramed_of_stores (fun _ => ⟨_, rfl⟩) (fun s => (s.advance 2).stop_onlyAt) fun _ => rfl
  | fam_ld_atHLI_a =>
    exact memoryFramed_of_stores (fun _ => ⟨_, rfl⟩) (fun s => (s.advance 1).memWrite_onlyAt s.hl s.a) fun _ => rfl
  | fam_ld_atHLD_a =>
    exact memoryFramed_of_stores (fun _ => ⟨_, rfl⟩) (fun s => (s.advance 1).memWrite_onlyAt s.hl s.a) fun _ => rfl
  | fam_call_nn nn =>
    exact memoryFramed_of_stores (fun _ => ⟨_, rfl⟩) (fun s => (s.advance 3).call_onlyAt nn) fun _ => rfl
  | fam_ldh_atN_a n =>
    exact memoryFramed_of_stores (fun _ => ⟨_, rfl⟩) (fun s => (s.advance 2).memWrite_onlyAt (highPage n) s.a)
      (storeAddresses_ldh_atN_a n)
  | fam_ld_atC_a =>
    exact memoryFramed_of_stores (fun _ => ⟨_, rfl⟩) (fun s => (s.advance 1).memWrite_onlyAt (highPage s.c) s.a)
      storeAddresses_ld_atC_a
  | fam_ld_atNN_a nn =>
    exact memoryFramed_of_stores (fun _ => ⟨_, rfl⟩) (fun s => (s.advance 3).memWrite_onlyAt nn s.a) fun _ => rfl
  -- what is left stores nothing; HALT alone has two paths
  | fam_halt => exact memoryFramed_of_noStore (fun _ => ⟨_, rfl⟩) fun s => (s.advance 1).halt_onlyAt
  | _ => exact memoryFramed_of_noStore (fun _ => ⟨_, rfl⟩) fun s => .refl s

/-- Settles O53: each instruction's operation stores at the addresses listed for it. -/
theorem memoryFrame : Obligations.MemoryFrame := memoryFramed

end Sys2Proof.Machine
end

section
/-! PROOF. The statements about the encoding (30_encoding.md R100 to R120) and the fetch. -/

namespace Sys2Proof
open Sys2Proof.Machine

/-! ### The encoder and the decoder, opcode by opcode -/

/-- The first of an instruction's bytes (30_encoding.md R100). -/
def Instr.opcode (i : Instr) : Byte := (encode i).headD 0

/-- `op` begins the bytes of `i`, with no operand, a byte operand or a 16-bit one after it, and for every operand there the encoder and
the decoder agree on the instruction (30_encoding.md R111). The whole CB map is one opcode with a byte operand. -/
inductive Encoded (op : Byte) : Instr → Prop
  | alone {i : Instr} (henc : encode i = [op]) (hdec : ∀ n1 n2, decodeInstr op n1 n2 = i) (hlen : instrLength op = 1) : Encoded op i
  | withByte {family : Byte → Instr} (n : Byte) (henc : ∀ n, encode (family n) = [op, n])
      (hdec : ∀ n1 n2, decodeInstr op n1 n2 = family n1) (hlen : instrLength op = 2) : Encoded op (family n)
  | withWord {family : Word → Instr} (nn : Word) (henc : ∀ nn, encode (family nn) = [op, loByte nn, hiByte nn])
      (hdec : ∀ n1 n2, decodeInstr op n1 n2 = family (joinBytes n2 n1)) (hlen : instrLength op = 3) : Encoded op (family nn)

theorem Encoded.opcode_eq {op : Byte} {i : Instr} (h : Encoded op i) : i.opcode = op := by
  cases h with
  | alone henc | withByte _ henc | withWord _ henc => simp [Instr.opcode, henc]

theorem Encoded.decode_encode_append {op : Byte} {i : Instr} (h : Encoded op i) (rest : List Byte) :
    decode (encode i ++ rest) = .ok (i, rest) := by
  cases h with
  | alone henc hdec hlen | withByte n henc hdec hlen | withWord nn henc hdec hlen => simp [decode, henc, hdec, hlen]

theorem Encoded.encode_decodeInstr {op : Byte} {i : Instr} (h : Encoded op i) (n1 n2 : Byte) :
    encode (decodeInstr op n1 n2) = [op, n1, n2].take (instrLength op) := by
  cases h with
  | alone henc hdec hlen | withByte n henc hdec hlen | withWord nn henc hdec hlen => simp [henc, hdec, hlen]

/-- The CB map loses no bit of its second byte (30_encoding.md R116). -/
theorem encode_decodeCB : ∀ n : Byte, encode (decodeCB n) = [0xCB, n] := by decide

/-- An instruction of the CB map has the form, if it is decoded back from the second byte of its encoding. -/
theorem encoded_of_decodeCB {i : Instr} (h : decodeCB ((encode i).getD 1 0) = i) : ∃ op, Encoded op i :=
  ⟨0xCB, h ▸ .withByte _ encode_decodeCB (fun _ _ => rfl) rfl⟩

/-- Every instruction has one of the three forms: an operand field is one opcode for each of its values. -/
theorem exists_encoded (i : Instr) : ∃ op, Encoded op i := by
  induction i using instr_by_family with
  | fam_ldRegReg dst src => cases dst <;> cases src <;> exact ⟨_, .alone rfl (fun _ _ => rfl) rfl⟩
  | fam_ldLocImm x n => rcases x with ⟨⟨⟩⟩ | _ <;> exact ⟨_, .withByte n (fun _ => rfl) (fun _ _ => rfl) rfl⟩
  | fam_ldRegAtHL r | fam_ldAtHLReg r => cases r <;> exact ⟨_, .alone rfl (fun _ _ => rfl) rfl⟩
  | fam_aluLoc op x => cases op <;> rcases x with ⟨⟨⟩⟩ | _ <;> exact ⟨_, .alone rfl (fun _ _ => rfl) rfl⟩
  | fam_aluImm op n => cases op <;> exact ⟨_, .withByte n (fun _ => rfl) (fun _ _ => rfl) rfl⟩
  | fam_incLoc x | fam_decLoc x => rcases x with ⟨⟨⟩⟩ | _ <;> exact ⟨_, .alone rfl (fun _ _ => rfl) rfl⟩
  | fam_ldPairImm rr nn => cases rr <;> exact ⟨_, .withWord nn (fun _ => rfl) (fun _ _ => rfl) rfl⟩
  | fam_addHLPair rr | fam_incPair rr | fam_decPair rr | fam_pushPair rr | fam_popPair rr =>
    cases rr <;> exact ⟨_, .alone rfl (fun _ _ => rfl) rfl⟩
  | fam_jpCond cc nn | fam_callCond cc nn => cases cc <;> exact ⟨_, .withWord nn (fun _ => rfl) (fun _ _ => rfl) rfl⟩
  | fam_jrCond cc e => cases cc <;> exact ⟨_, .withByte e (fun _ => rfl) (fun _ _ => rfl) rfl⟩
  | fam_retCond cc => cases cc <;> exact ⟨_, .alone rfl (fun _ _ => rfl) rfl⟩
  | fam_rst y => fin_cases y <;> exact ⟨_, .alone rfl (fun _ _ => rfl) rfl⟩
  | fam_illegal x => cases x <;> exact ⟨_, .alone rfl (fun _ _ => rfl) rfl⟩
  | fam_rotLoc op x => exact encoded_of_decodeCB (by cases op <;> rcases x with ⟨⟨⟩⟩ | _ <;> rfl)
  | fam_bitLoc y x | fam_resLoc y x | fam_setLoc y x =>
    exact encoded_of_decodeCB (by fin_cases y <;> rcases x with ⟨⟨⟩⟩ | _ <;> rfl)
  | fam_stop n | fam_jr_e n | fam_ldh_atN_a n | fam_ldh_a_atN n | fam_add_sp_e n | fam_ld_hl_sp_e n =>
    exact ⟨_, .withByte n (fun _ => rfl) (fun _ _ => rfl) rfl⟩
  | fam_ld_atNN_sp nn | fam_jp_nn nn | fam_call_nn nn | fam_ld_atNN_a nn | fam_ld_a_atNN nn =>
    exact ⟨_, .withWord nn (fun _ => rfl) (fun _ _ => rfl) rfl⟩
  -- what is left has no operand
  | _ => exact ⟨_, .alone rfl (fun _ _ => rfl) rfl⟩

theorem opcode_decodeInstr : ∀ op : Byte, (decodeInstr op 0 0).opcode = op := by decide

/-- Every byte value begins an instruction (30_encoding.md R120), and so has one of the three forms. -/
theorem encoded_decodeInstr (op : Byte) : Encoded op (decodeInstr op 0 0) := by
  obtain ⟨op', h⟩ := exists_encoded (decodeInstr op 0 0)
  have hop : op = op' := (opcode_decodeInstr op).symm.trans h.opcode_eq
  exact hop ▸ h

/-- Settles O41: each instruction has one of the three forms, and in each the decoder reads back what the encoder wrote. -/
theorem decodeOfEncode : Obligations.DecodeOfEncode := by
  intro i rest
  obtain ⟨op, h⟩ := exists_encoded i
  exact h.decode_encode_append rest

/-- Settles O42: each opcode has one of the three forms, and in each the encoder writes back what the decoder read; the lengths are
checked for the 256 opcodes. -/
theorem encodeOfDecode : Obligations.EncodeOfDecode := by
  intro op n1 n2
  refine ⟨(encoded_decodeInstr op).encode_decodeInstr n1 n2, ?_⟩
  revert op
  decide

/-- Settles O40: each word by evaluation. -/
theorem decodedWords : Obligations.DecodedWords := by
  exact ⟨rfl, rfl, rfl, rfl, rfl, rfl, rfl, rfl, rfl, rfl, rfl, rfl, rfl⟩

/-- Three bytes are enough for any opcode, so they decode to what it selects. -/
theorem decodeInstr_of_decode {op n1 n2 : Byte} {i : Instr} {rest : List Byte} (h : decode [op, n1, n2] = .ok (i, rest)) :
    decodeInstr op n1 n2 = i := by
  simp only [decode] at h
  split at h
  · cases h
  · cases h
    rfl

end Sys2Proof

namespace Sys2Proof.Machine

/-! ### The step of an instruction -/

/-- Every arm of `exec` ends in `State.retire` or, for an illegal opcode, in the next state it raises the fault in. -/
theorem exec_answers (i : Instr) (s : State) : ∃ t, exec i s = .next t := by
  cases i <;> exact ⟨_, rfl⟩

/-- A core that does not stay halted is woken (60_exceptions.md R333). -/
theorem State.wake_eq {s : State} (h : s.halted = true → s.pending ≠ 0) : s.wake = { s with halted := false } := by
  unfold State.wake
  split
  · rfl
  · next hstay =>
    have hawake : s.halted = false := by simpa using fun hh => hstay ⟨hh, h hh⟩
    rw [← hawake]

theorem State.dispatchSource_eq_none {s : State} (h : s.ime = true → s.pending = 0) : s.dispatchSource = none := by
  unfold State.dispatchSource
  split
  · next hime => exact (lowestPending_eq_none_iff _).2 (h hime)
  · rfl

theorem phase_instruction {s : State} (hlocked : s.locked = false) (hstopped : s.stopped = false)
    (hwake : s.halted = true → s.pending ≠ 0) (hdispatch : s.ime = true → s.pending = 0) : s.phase = .instruction := by
  rw [phase_of_running s hlocked hstopped, State.dispatchSource_eq_none hdispatch, State.wake_eq hwake]
  rfl

/-- The step of an instruction, by the instruction the fetch selects. -/
theorem step_of_instruction {s t : State} (hphase : s.phase = .instruction) (h : exec s.wake.fetchInstr s.wake = .next t) :
    step s = .next (t.timerAdvance t.cycles) := by
  rw [step, hphase]
  simp only [h, afterExec]

/-- Under the halt bug the opcode byte is fetched again as the byte after it (30_encoding.md R101). -/
theorem State.fetchInstr_of_haltBug {s : State} (h : s.haltBug = true) :
    s.fetchInstr = decodeInstr (s.memRead s.pc) (s.memRead s.pc) (s.memRead (s.pc + 1)) := by
  simp only [State.fetchInstr, State.opcodeAdvance, h, if_true, add_zero]

/-- Without it the bytes are those from PC on (30_encoding.md R102). -/
theorem State.fetchInstr_of_noHaltBug {s : State} (h : s.haltBug = false) :
    s.fetchInstr = decodeInstr (s.memRead s.pc) (s.memRead (s.pc + 1)) (s.memRead (s.pc + 2)) := by
  have hnext : s.pc + 1 + 1 = s.pc + 2 := BitVec.add_assoc s.pc 1 1
  simp only [State.fetchInstr, State.opcodeAdvance, h, Bool.false_eq_true, if_false, hnext]

theorem State.fetchInstr_of_decode {s : State} {i : Instr} {rest : List Byte}
    (h : decode (if s.haltBug then [s.memRead s.pc, s.memRead s.pc, s.memRead (s.pc + 1)]
      else [s.memRead s.pc, s.memRead (s.pc + 1), s.memRead (s.pc + 2)]) = .ok (i, rest)) : s.fetchInstr = i := by
  cases hbug : s.haltBug with
  | true =>
    rw [hbug, if_pos rfl] at h
    exact (State.fetchInstr_of_haltBug hbug).trans (decodeInstr_of_decode h)
  | false =>
    rw [hbug, if_neg nofun] at h
    exact (State.fetchInstr_of_noHaltBug hbug).trans (decodeInstr_of_decode h)

/-- Settles O43: the state is ready to fetch, waking it changes none of the bytes fetched, and every instruction answers. -/
theorem stepRunsTheDecodedInstruction : Obligations.StepRunsTheDecodedInstruction := by
  intro s i rest hlocked hstopped hwake hdispatch hdecode
  obtain ⟨t, ht⟩ := exec_answers i { s with halted := false }
  have hfetch : { s with halted := false }.fetchInstr = i := State.fetchInstr_of_decode (s := { s with halted := false }) hdecode
  refine ⟨t, ht, step_of_instruction (phase_instruction hlocked hstopped hwake hdispatch) ?_⟩
  rw [State.wake_eq hwake, hfetch, ht]

end Sys2Proof.Machine
end

section
/-! PROOF. The statements about the loads, the stores and the stack (40_loads.md R141 to R167): an instruction is its bytes and one
operation on the state past its fetch. -/

namespace Sys2Proof.Machine
open Sys2Proof.Claims

/-! ### Pop16 after Push16 -/

/-- A read after a store at a bus address of FLAT_RAM. -/
theorem State.memRead_memWrite_of_flatRam (s : State) {a : Word} (v : Byte) (hflat : s.bus.isFlatRam = true)
    (ha : blockReg? a = none) (x : Word) : (s.memWrite a v).memRead x = if x = a then v else s.memRead x := by
  split
  · next hx => rw [hx, s.memRead_memWrite_same a v (.inl hflat), readBack_of_bus ha]
  · next hx => exact s.memRead_memWrite_other a x v hx (.inl hflat)

/-- A read after Push16 whose two bytes are FLAT_RAM's: its new SP is not of memory, so it is one after two stores. -/
theorem State.memRead_push16_of_flatRam (s : State) (v : Word) (hflat : s.bus.isFlatRam = true)
    (hhigh : blockReg? (s.sp - 1) = none) (hlow : blockReg? (s.sp - 2) = none) (x : Word) :
    (s.push16 v).memRead x = if x = s.sp - 2 then loByte v else if x = s.sp - 1 then hiByte v else s.memRead x := by
  have hflat' : (s.memWrite (s.sp - 1) (hiByte v)).bus.isFlatRam = true := (s.memWrite_isFlatRam _ _).trans hflat
  rw [← s.memRead_memWrite_of_flatRam (hiByte v) hflat hhigh, State.push16_eq]
  exact State.memRead_memWrite_of_flatRam _ (loByte v) hflat' hlow x

/-- Settles O39: SP moves by two and back, and Pop16 joins the two bytes Push16 stored. -/
theorem popAfterPush : Obligations.PopAfterPush := by
  intro s v
  have hsp : (s.push16 v).sp = s.sp - 2 := by rw [State.push16_eq]
  refine ⟨?_, fun hflat hhigh hlow => ?_⟩
  · rw [State.dropWord_sp, hsp]
    exact BitVec.sub_add_cancel s.sp 2
  · have hread := s.memRead_push16_of_flatRam v hflat hhigh hlow
    have hne : s.sp - 1 ≠ s.sp - 2 := by bv_omega
    have hhi : (s.push16 v).memRead (s.sp - 1) = hiByte v := by rw [hread, if_neg hne, if_pos rfl]
    have hlo : (s.push16 v).memRead (s.sp - 2) = loByte v := by rw [hread, if_pos rfl]
    have hnext : s.sp - 2 + 1 = s.sp - 1 := by bv_omega
    refine ⟨?_, hhi, hlo⟩
    rw [State.popValue, hsp, hnext, hhi, hlo, joinBytes_hiByte_loByte]

/-! ### An instruction as one operation past its fetch -/

/-- No instruction writes the parameters, and so not the table its count is looked up in. -/
theorem params_of_exec_retire {i : Instr} {s t : State} {key : Nat} {taken : Bool} {k : Nat} (h : exec i s = t.retire key taken k) :
    t.params = s.params := by
  obtain ⟨_, -, hframe⟩ := hasFrame i
  exact (hframe s _ h).params

/-- An instruction that is the operation `op` past a fetch of `len` bytes, and its count, executes to what `op` makes of `past s len`.
The fetch writes no register and nothing of memory, so what `op` reads in `past s len` is what `s` holds, by the definitions. -/
theorem executes_of_op (op : State → State) {i : Instr} {bytes : List Byte} {k len : Nat} {s : State} (henc : encode i = bytes)
    (hexec : exec i s = (op (s.advance len)).retire i.key true k) (hpos : 0 < len := by decide) :
    Executes i bytes k s (op (past s len)) := by
  rw [s.advance_eq_past hpos] at hexec
  exact ⟨henc, hexec.trans (State.retire_eq rfl (params_of_exec_retire hexec))⟩

/-- The fetch is not of memory. -/
theorem onlyAt_of_past {l : List Word} {s t : State} {len : Nat} (h : OnlyAt l (past s len) t) : OnlyAt l s t := h

/-! ### The loads and the stores -/

/-- Settles O1: one move for the whole family, and the 49 encodings by evaluation. -/
theorem loadRegisterFromRegister : Obligations.LoadRegisterFromRegister := fun dst src s =>
  executes_of_op (·.move (.reg dst) (.reg src)) (by cases dst <;> cases src <;> rfl) (exec_ldRegReg dst src s)

/-- Settles O2: both forms write the byte to the operand field. -/
theorem loadImmediateByte : Obligations.LoadImmediateByte := by
  refine ⟨fun r n s => ?_, fun n s => ⟨?_, ?_⟩⟩
  · exact executes_of_op (·.writeLoc (.reg r) n) (by cases r <;> rfl) (exec_ldLocImm (.reg r) n s)
  · exact executes_of_op (·.writeLoc .atHL n) rfl (exec_ldLocImm .atHL n s)
  · exact onlyAt_of_past ((past s 2).memWrite_onlyAt s.hl n)

/-- Settles O3: both are a move between the register and (HL), whose address is read before anything is written. -/
theorem loadThroughHL : Obligations.LoadThroughHL := by
  refine ⟨fun r s => ?_, fun r s => ⟨?_, ?_⟩⟩
  · exact executes_of_op (·.move (.reg r) .atHL) (by cases r <;> rfl) (exec_ldRegAtHL r s)
  · exact executes_of_op (·.move .atHL (.reg r)) (by cases r <;> rfl) (exec_ldAtHLReg r s)
  · exact onlyAt_of_past ((past s 1).memWrite_onlyAt s.hl (s.getReg r))

/-- Settles O4: each is a load of A, the high page being the addresses whose high byte is 0xFF. -/
theorem loadAccumulatorFromMemory : Obligations.LoadAccumulatorFromMemory := by
  intro n nn s
  rw [← highPage_eq_append, ← highPage_eq_append]
  refine ⟨?_, ?_, ?_, ?_, ?_⟩
  · exact executes_of_op (·.loadA s.bc) rfl rfl
  · exact executes_of_op (·.loadA s.de) rfl rfl
  · exact executes_of_op (·.loadA nn) rfl (by rw [Instr.key_ld_a_atNN]; rfl)
  · exact executes_of_op (·.loadA (highPage n)) rfl (by rw [Instr.key_ldh_a_atN]; rfl)
  · exact executes_of_op (·.loadA (highPage s.c)) rfl rfl

/-- Settles O5: each is a store of A, the high page being the addresses whose high byte is 0xFF. -/
theorem storeAccumulatorToMemory : Obligations.StoreAccumulatorToMemory := by
  intro n nn s
  rw [← highPage_eq_append, ← highPage_eq_append]
  refine ⟨?_, ?_, ?_, ?_, ?_, fun len addr => ?_⟩
  · exact executes_of_op (·.storeA s.bc) rfl rfl
  · exact executes_of_op (·.storeA s.de) rfl rfl
  · exact executes_of_op (·.storeA nn) rfl (by rw [Instr.key_ld_atNN_a]; rfl)
  · exact executes_of_op (·.storeA (highPage n)) rfl (by rw [Instr.key_ldh_atN_a]; rfl)
  · exact executes_of_op (·.storeA (highPage s.c)) rfl rfl
  · exact onlyAt_of_past ((past s len).memWrite_onlyAt addr s.a)

theorem ofNat_toNat_add_one (w : Word) : BitVec.ofNat 16 (w.toNat + 1) = w + 1 := by bv_omega

/-- 65535 is -1 mod 2^16. -/
theorem ofNat_toNat_add_65535 (w : Word) : BitVec.ofNat 16 (w.toNat + 65535) = w - 1 := by bv_omega

/-- Settles O6: a load or store of A at HL as it was, then HL written; a write of HL is not of memory. -/
theorem loadAndStoreMovingHL : Obligations.LoadAndStoreMovingHL := by
  intro s
  rw [ofNat_toNat_add_one, ofNat_toNat_add_65535]
  have hstore : OnlyAt [s.hl] s ((past s 1).memWrite s.hl s.a) := onlyAt_of_past ((past s 1).memWrite_onlyAt s.hl s.a)
  refine ⟨?_, ?_, ?_, ?_, hstore, hstore⟩
  · exact executes_of_op (fun u => (u.loadA s.hl).setHL (s.hl + 1)) rfl rfl
  · exact executes_of_op (fun u => (u.loadA s.hl).setHL (s.hl - 1)) rfl rfl
  · exact executes_of_op (fun u => (u.storeA s.hl).setHL (s.hl + 1)) rfl rfl
  · exact executes_of_op (fun u => (u.storeA s.hl).setHL (s.hl - 1)) rfl rfl

/-- Settles O7: each is a write of the pair. -/
theorem loadPair : Obligations.LoadPair := by
  refine ⟨fun rr nn s => ?_, fun s => ?_⟩
  · exact executes_of_op (·.setPair rr nn) (by cases rr <;> rfl) (exec_ldPairImm rr nn s)
  · exact executes_of_op (·.setPair .sp s.hl) rfl rfl

/-- Settles O8: two stores of SP as it was before the fetch. -/
theorem storeStackPointer : Obligations.StoreStackPointer := by
  intro nn s
  constructor
  · exact executes_of_op (·.storeSP nn) rfl (by rw [Instr.key_ld_atNN_sp]; rfl)
  · exact onlyAt_of_past ((past s 3).memWrite_memWrite_onlyAt nn (nn + 1) _ _)

/-! ### The stack instructions -/

/-- Settles O9: the pair is pushed past the fetch, and Push16 is two stores and the new SP. -/
theorem pushPair : Obligations.PushPair := by
  intro rr s t
  have hpush : (past s 1).push16 (s.getStackPair rr) = t := (past s 1).push16_eq _
  rw [← hpush]
  constructor
  · exact executes_of_op (·.push16 (s.getStackPair rr)) (by cases rr <;> rfl) (exec_pushPair rr s)
  · exact onlyAt_of_past ((past s 1).push16_onlyAt _)

/-- POP AF by the two bytes on the stack. -/
theorem State.pop_af (s : State) :
    s.pop .af = { s with sp := s.sp + 2, a := s.memRead (s.sp + 1), flags := Flags.ofByte (s.memRead s.sp) } := by
  simp only [State.pop, State.dropWord, State.setStackPair, State.setAF, State.popValue, hiByte_joinBytes, loByte_joinBytes]

/-- Settles O10: both are a pop past the fetch. -/
theorem popPair : Obligations.PopPair := by
  refine ⟨fun rr s _ => ?_, fun s => ?_⟩
  · exact executes_of_op (·.pop rr) (by cases rr <;> rfl) (exec_popPair rr s)
  · have h : Executes .pop_af [0xF1] 12 s ((past s 1).pop .af) := executes_of_op (·.pop .af) rfl rfl
    rw [State.pop_af] at h
    exact h

end Sys2Proof.Machine
end

section
/-! PROOF. The statements about the 8-bit arithmetic and logic (41_alu8.md R180 to R213): the model's operations on bytes are the spec's
arithmetic on numbers, and an instruction is one of them past its fetch. -/

namespace Sys2Proof.Machine
open Sys2Proof.Claims

/-! ### Bytes of numbers -/

theorem bit_eq_toNat (x : Bool) : bit x = x.toNat := by cases x <;> rfl

theorem carryByte_toNat (cin : Bool) : (carryByte cin).toNat = bit cin := by cases cin <;> rfl

theorem byteOne_toNat : (1 : Byte).toNat = 1 := rfl

theorem byte_beq_zero (n : Nat) : (byte n == 0) = (n % 256 == 0) := by
  rw [Bool.eq_iff_iff, beq_iff_eq, beq_iff_eq, ← BitVec.toNat_inj, byte, BitVec.toNat_ofNat]
  rfl

theorem ofInt_beq_zero (i : Int) : (BitVec.ofInt 8 i == 0) = decide (i % 256 = 0) := by
  have hnat : (BitVec.ofInt 8 i).toNat = (i % 256).toNat := BitVec.toNat_ofInt i
  have hzero : (0 : Byte).toNat = 0 := rfl
  rw [Bool.eq_iff_iff, beq_iff_eq, decide_eq_true_iff, ← BitVec.toNat_inj, hnat, hzero]
  omega

theorem ofInt_toNat (v : Byte) : BitVec.ofInt 8 (v.toNat : Int) = v := by
  rw [BitVec.ofInt_natCast, BitVec.ofNat_toNat, BitVec.setWidth_eq]

theorem ofInt_sub_toNat (i : Int) (v : Byte) : BitVec.ofInt 8 (i - v.toNat) = BitVec.ofInt 8 i - v := by
  rw [sub_eq_add_neg, BitVec.ofInt_add, BitVec.ofInt_neg, ofInt_toNat, BitVec.sub_eq_add_neg]

/-! ### The shared operations in numbers (R17, R181) -/

theorem add_eq_byte (a b : Byte) (cin : Bool) : a + b + carryByte cin = byte (a.toNat + b.toNat + bit cin) := by
  simp only [byte, BitVec.ofNat_add, ← carryByte_toNat, BitVec.ofNat_toNat, BitVec.setWidth_eq]

theorem sub_eq_ofInt (a b : Byte) (cin : Bool) :
    a - b - carryByte cin = BitVec.ofInt 8 ((a.toNat : Int) - b.toNat - bit cin) := by
  rw [← carryByte_toNat, ofInt_sub_toNat, ofInt_sub_toNat, ofInt_toNat]

theorem added_eq_add8 (s : State) (len : Nat) (b : Byte) (cin : Bool) :
    added s len b cin = { past s len with a := (add8 s.a b cin).1, flags := (add8 s.a b cin).2 } := by
  simp only [added, add8, add_eq_byte, byte_beq_zero, hcAdd8, cAdd8, bit_eq_toNat]

theorem differenceFlags_eq_sub8 (s : State) (b : Byte) (cin : Bool) : differenceFlags s b cin = (sub8 s.a b cin).2 := by
  simp only [differenceFlags, sub8, sub_eq_ofInt, ofInt_beq_zero, hcSub8, cSub8, bit_eq_toNat]

theorem subtracted_eq_sub8 (s : State) (len : Nat) (b : Byte) (cin : Bool) :
    subtracted s len b cin = { past s len with a := (sub8 s.a b cin).1, flags := (sub8 s.a b cin).2 } := by
  simp only [subtracted, differenceFlags_eq_sub8, sub8, sub_eq_ofInt]

/-- R206. -/
theorem inc8_eq (v : Byte) (f : Flags) :
    inc8 v f = (byte (v.toNat + 1), { z := v.toNat == 255, n := false, h := v.toNat % 16 == 15, c := f.c }) := by
  have hval : v + 1 = byte (v.toNat + 1) := by unfold byte; bv_omega
  have hz : ((v.toNat + 1) % 256 == 0) = (v.toNat == 255) := by rw [Bool.eq_iff_iff, beq_iff_eq, beq_iff_eq]; omega
  have hh : hcAdd8 v 1 false = (v.toNat % 16 == 15) := by
    rw [Bool.eq_iff_iff, hcAdd8, decide_eq_true_iff, beq_iff_eq, byteOne_toNat, Bool.toNat_false]
    omega
  rw [inc8, hval, byte_beq_zero, hz, hh]

/-- R208: to take one away is to add 255. -/
theorem dec8_eq (v : Byte) (f : Flags) :
    dec8 v f = (byte (v.toNat + 255), { z := v.toNat == 1, n := true, h := v.toNat % 16 == 0, c := f.c }) := by
  have hval : v - 1 = byte (v.toNat + 255) := by unfold byte; bv_omega
  have hz : ((v.toNat + 255) % 256 == 0) = (v.toNat == 1) := by rw [Bool.eq_iff_iff, beq_iff_eq, beq_iff_eq]; omega
  have hh : hcSub8 v 1 false = (v.toNat % 16 == 0) := by
    rw [Bool.eq_iff_iff, hcSub8, decide_eq_true_iff, beq_iff_eq, byteOne_toNat, Bool.toNat_false]
    omega
  rw [dec8, hval, byte_beq_zero, hz, hh]

/-! ### The instructions but DAA -/

/-- The ALU form on a register or (HL) (R180). -/
theorem executes_aluLoc (op : AluOp) (l : Loc) (s : State) :
    Executes (.aluLoc op l) [byte (0x80 + 8 * aluCode op + locCode l)] (byLoc l 4 8) s ((past s 1).aluLoc op l) :=
  executes_of_op (·.aluLoc op l) (by cases op <;> rcases l with ⟨⟨⟩⟩ | _ <;> rfl) (exec_aluLoc op l s)

/-- The ALU form on an immediate (R180). -/
theorem executes_aluImm (op : AluOp) (n : Byte) (s : State) :
    Executes (.aluImm op n) [byte (0xC6 + 8 * aluCode op), n] 8 s ((past s 2).alu op n) :=
  executes_of_op (·.alu op n) (by cases op <;> rfl) (exec_aluImm op n s)

/-- Settles O11: `added` is ADD8 with the carry in each form has. -/
theorem addAndAddWithCarry : Obligations.AddAndAddWithCarry := by
  intro l n s
  simp only [added_eq_add8]
  exact ⟨executes_aluLoc .add l s, executes_aluImm .add n s, executes_aluLoc .adc l s, executes_aluImm .adc n s⟩

/-- Settles O12: `subtracted` is SUB8 with the borrow in each form has. -/
theorem subtractAndSubtractWithCarry : Obligations.SubtractAndSubtractWithCarry := by
  intro l n s
  simp only [subtracted_eq_sub8]
  exact ⟨executes_aluLoc .sub l s, executes_aluImm .sub n s, executes_aluLoc .sbc l s, executes_aluImm .sbc n s⟩

/-- Settles O13: the operations on bytes are the statement's own, so the ALU form is all there is to say. -/
theorem logicalOperations : Obligations.LogicalOperations := fun l n s =>
  ⟨executes_aluLoc .and l s, executes_aluImm .and n s, executes_aluLoc .xor l s, executes_aluImm .xor n s,
    executes_aluLoc .or l s, executes_aluImm .or n s⟩

/-- Settles O14: the flags are those of SUB8, and A is written with itself. -/
theorem compare : Obligations.Compare := by
  intro l n s
  simp only [differenceFlags_eq_sub8]
  exact ⟨executes_aluLoc .cp l s, executes_aluImm .cp n s⟩

/-- Settles O15: each reads its operand, writes it back one more or one less, and then writes F. -/
theorem incrementAndDecrement : Obligations.IncrementAndDecrement := by
  intro l s
  have hinc : Executes (.incLoc l) [byte (0x04 + 8 * locCode l)] (byLoc l 4 12) s ((past s 1).inc l) :=
    executes_of_op (·.inc l) (by rcases l with ⟨⟨⟩⟩ | _ <;> rfl) (exec_incLoc l s)
  have hdec : Executes (.decLoc l) [byte (0x05 + 8 * locCode l)] (byLoc l 4 12) s ((past s 1).dec l) :=
    executes_of_op (·.dec l) (by rcases l with ⟨⟨⟩⟩ | _ <;> rfl) (exec_decLoc l s)
  rw [State.inc, inc8_eq] at hinc
  rw [State.dec, dec8_eq] at hdec
  exact ⟨hinc, hdec⟩

/-- Settles O18: the complement of a byte is what it lacks to 255, that of a bit what it lacks to 1. -/
theorem complementAndCarryFlag : Obligations.ComplementAndCarryFlag := by
  intro s
  have hcpl : byte (255 - s.a.toNat) = ~~~s.a := by unfold byte; bv_omega
  have hccf : decide (1 - bit s.flags.c = 1) = !s.flags.c := by cases s.flags.c <;> rfl
  rw [hcpl, hccf]
  exact ⟨executes_of_op State.cpl rfl rfl, executes_of_op State.scf rfl rfl, executes_of_op State.ccf rfl rfl⟩

/-! ### DAA -/

/-- What DAA adds or subtracts: 0x60 for the high digit and 0x06 for the low one (R210). -/
def daaFix (high low : Bool) : Byte := (if high then 0x60 else 0) + (if low then 0x06 else 0)

theorem daaFix_toNat (high low : Bool) : (daaFix high low).toNat = 0x60 * bit high + 0x06 * bit low := by
  cases high <;> cases low <;> rfl

section
variable {f : Flags}

/-- After an addition the carries and the two digits of A say which digits are corrected. -/
theorem daa8_of_add (a : Byte) (hn : f.n = false) :
    daa8 a f =
      let v := a + daaFix (f.c || decide (a.toNat > 0x99)) (f.h || decide (a.toNat % 16 > 0x09))
      (v, { z := v == 0, n := false, h := false, c := f.c || decide (a.toNat > 0x99) }) := by
  cases f
  cases hn
  rfl

/-- After a subtraction the borrows alone do. -/
theorem daa8_of_sub (a : Byte) (hn : f.n = true) :
    daa8 a f =
      let v := a - daaFix f.c f.h
      (v, { z := v == 0, n := true, h := false, c := f.c }) := by
  obtain ⟨z, n, h, c⟩ := f
  cases hn
  cases h <;> cases c <;> rfl

theorem daaCorrected_of_add (a : Nat) (hn : f.n = false) :
    daaCorrected a f =
      ((a : Int) + (daaFix (f.c || decide (a > 0x99)) (f.h || decide (a % 16 > 0x09))).toNat, f.c || decide (a > 0x99)) := by
  rw [daaCorrected, if_pos hn]
  generalize (f.c || decide (a > 0x99)) = high
  generalize (f.h || decide (a % 16 > 0x09)) = low
  cases high <;> cases low <;> simp [daaFix, add_assoc]

theorem daaCorrected_of_sub (a : Nat) (hn : f.n = true) : daaCorrected a f = ((a : Int) - (daaFix f.c f.h).toNat, f.c) := by
  rw [daaCorrected, if_neg (by simp [hn])]
  generalize f.c = high
  generalize f.h = low
  cases high <;> cases low <;> simp [daaFix, sub_sub]

end

theorem daa8_eq (a : Byte) (f : Flags) :
    daa8 a f =
      let r := daaCorrected a.toNat f
      (BitVec.ofInt 8 r.1, { z := decide (r.1 % 256 = 0), n := f.n, h := false, c := r.2 }) := by
  simp only [← ofInt_beq_zero]
  cases hn : f.n with
  | false => rw [daaCorrected_of_add _ hn, daa8_of_add _ hn, BitVec.ofInt_add, ofInt_toNat, ofInt_toNat]
  | true => rw [daaCorrected_of_sub _ hn, daa8_of_sub _ hn, ofInt_sub_toNat, ofInt_toNat]

/-- Settles O16: the correction of the byte is that of the number, whichever digits it is of. -/
theorem decimalAdjust : Obligations.DecimalAdjust := by
  intro s r
  have h : Executes .daa [0x27] 4 s (past s 1).daa := executes_of_op State.daa rfl rfl
  rw [State.daa, daa8_eq] at h
  exact h

/-! ### DAA of a sum of packed-BCD bytes -/

/-- The byte whose two digits are those of a number below 100. -/
def packedBcd (x : Nat) : Byte := byte (16 * (x / 10) + x % 10)

theorem packedBcd_toNat {x : Nat} (hx : x < 100) : (packedBcd x).toNat = 16 * (x / 10) + x % 10 := by
  rw [packedBcd, byte, BitVec.toNat_ofNat]
  omega

theorem add8_of_no_carry (a b : Byte) :
    add8 a b false =
      (a + b, {
        z := a + b == 0
        n := false
        h := decide (a.toNat % 16 + b.toNat % 16 > 0xF)
        c := decide (a.toNat + b.toNat > 0xFF) }) := by
  have hsum : a + b + carryByte false = a + b := BitVec.add_zero (a + b)
  simp only [add8, hsum]
  rfl

section
variable {x y : Nat} (hx : x < 100) (hy : y < 100)
include hx hy

/-- DAA corrects the low digit exactly if the decimal sum carries out of it. -/
theorem daa_low_iff_of_packedBcd :
    ((packedBcd x).toNat % 16 + (packedBcd y).toNat % 16 > 0xF ∨ ((packedBcd x).toNat + (packedBcd y).toNat) % 256 % 16 > 0x09) ↔
      x % 10 + y % 10 > 9 := by
  rw [packedBcd_toNat hx, packedBcd_toNat hy]
  omega

theorem packedBcd_add_gt_iff : (packedBcd x).toNat + (packedBcd y).toNat > 0x99 ↔ x + y > 99 := by
  have htens : x + y > 99 ∨ x / 10 + y / 10 ≤ 9 := by omega
  rw [packedBcd_toNat hx, packedBcd_toNat hy]
  omega

/-- DAA corrects the high digit exactly if the decimal sum carries out of it. -/
theorem daa_high_iff_of_packedBcd :
    ((packedBcd x).toNat + (packedBcd y).toNat > 0xFF ∨ ((packedBcd x).toNat + (packedBcd y).toNat) % 256 > 0x99) ↔
      x + y > 99 := by
  rw [← packedBcd_add_gt_iff hx hy]
  omega

/-- A digit that carries is 6 too small in hexadecimal. -/
theorem packedBcd_add_daaFix :
    packedBcd x + packedBcd y + daaFix (decide (x + y > 99)) (decide (x % 10 + y % 10 > 9)) = packedBcd ((x + y) % 100) := by
  have hsum : (x + y) % 100 < 100 := Nat.mod_lt _ (by decide)
  rw [← BitVec.toNat_inj, BitVec.toNat_add, BitVec.toNat_add, packedBcd_toNat hx, packedBcd_toNat hy, packedBcd_toNat hsum]
  simp only [daaFix_toNat, bit, decide_eq_true_eq]
  split_ifs <;> omega

theorem daa8_add8_packedBcd :
    daa8 (add8 (packedBcd x) (packedBcd y) false).1 (add8 (packedBcd x) (packedBcd y) false).2 =
      let v := packedBcd ((x + y) % 100)
      (v, { z := v == 0, n := false, h := false, c := decide (x + y > 99) }) := by
  rw [add8_of_no_carry, daa8_of_add _ rfl]
  simp only [BitVec.toNat_add, ← Bool.decide_or, Nat.reducePow, daa_low_iff_of_packedBcd hx hy, daa_high_iff_of_packedBcd hx hy,
    packedBcd_add_daaFix hx hy]

end

/-- Settles O17: after ADD the accumulator and the flags are those of ADD8, and DAA corrects exactly the digits that carry. -/
theorem decimalAdjustAddsBcd : Obligations.DecimalAdjustAddsBcd := by
  intro ⟨x, hx⟩ ⟨y, hy⟩ s r _ ha hr
  obtain ⟨-, hadd⟩ := executes_aluLoc .add (.reg r) s
  have hdaa := daa8_add8_packedBcd hx hy
  have hdigits : packedBcd ((x + y) % 100) = byte (16 * ((x + y) % 100 / 10) + (x + y) % 10) := by
    rw [packedBcd, Nat.mod_mod_of_dvd _ (by decide)]
  rw [packedBcd, packedBcd, ← ha, ← hr] at hdaa
  exact ⟨_, _, hadd, rfl, (congrArg (·.1) hdaa).trans hdigits, congrArg (·.2.c) hdaa⟩

end Sys2Proof.Machine
end

section
/-! PROOF. The statements about the 16-bit arithmetic (42_alu16.md R220 to R224): the model's operations on words are the spec's
arithmetic on numbers, and an instruction is one of them past its fetch. -/

namespace Sys2Proof.Machine
open Sys2Proof.Claims

/-- R220. -/
theorem add16_eq (a b : Word) (f : Flags) :
    add16 a b f =
      (BitVec.ofNat 16 (a.toNat + b.toNat), {
        z := f.z
        n := false
        h := decide (a.toNat % 0x1000 + b.toNat % 0x1000 > 0xFFF)
        c := decide (a.toNat + b.toNat > 0xFFFF) }) := by
  have hsum : a + b = BitVec.ofNat 16 (a.toNat + b.toNat) := BitVec.add_def a b
  rw [add16, hsum, hcAdd16, cAdd16]

/-- The sign extension of a byte is the word of its signed number. -/
theorem add_sext16_eq_ofInt (a : Word) (e : Byte) : a + sext16 e = BitVec.ofInt 16 ((a.toNat : Int) + e.toInt) := by
  rw [BitVec.ofInt_add, BitVec.ofInt_natCast, BitVec.ofNat_toNat, BitVec.setWidth_eq]
  rfl

/-- R223: the low byte of SP is its number mod 256, and the low digit of that byte its number mod 16. -/
theorem addSigned_eq (a : Word) (e : Byte) :
    addSigned a e =
      (BitVec.ofInt 16 ((a.toNat : Int) + e.toInt), {
        z := false
        n := false
        h := decide (a.toNat % 16 + e.toNat % 16 > 0xF)
        c := decide (a.toNat % 256 + e.toNat > 0xFF) }) := by
  have hdigit : a.toNat % 256 % 16 = a.toNat % 16 := Nat.mod_mod_of_dvd _ (by decide)
  rw [addSigned, add_sext16_eq_ofInt, hcAdd8, cAdd8, loByte_toNat, hdigit]
  rfl

/-- Settles O19: the addition is `add16` in numbers; INC and DEC write the pair alone. -/
theorem pairArithmetic : Obligations.PairArithmetic := by
  intro rr s
  have hadd : Executes (.addHLPair rr) [byte (0x09 + 16 * pairCode rr)] 8 s ((past s 1).addHL (s.getPair rr)) :=
    executes_of_op (·.addHL (s.getPair rr)) (by cases rr <;> rfl) (exec_addHLPair rr s)
  rw [State.addHL, add16_eq] at hadd
  rw [ofNat_toNat_add_one, ofNat_toNat_add_65535]
  refine ⟨hadd, ?_, ?_⟩
  · exact executes_of_op (·.setPair rr (s.getPair rr + 1)) (by cases rr <;> rfl) (exec_incPair rr s)
  · exact executes_of_op (·.setPair rr (s.getPair rr - 1)) (by cases rr <;> rfl) (exec_decPair rr s)

/-- Settles O20: both write the sum and the flags of `addSigned` at SP as it was. -/
theorem stackPointerOffset : Obligations.StackPointerOffset := by
  intro e s sum f
  have hsum : addSigned s.sp e = (sum, f) := addSigned_eq s.sp e
  have hadd : Executes (.add_sp_e e) [0xE8, e] 16 s ((past s 2).addSP e) :=
    executes_of_op (·.addSP e) rfl (by rw [Instr.key_add_sp_e]; rfl)
  have hload : Executes (.ld_hl_sp_e e) [0xF8, e] 12 s ((past s 2).loadHLSP e) :=
    executes_of_op (·.loadHLSP e) rfl (by rw [Instr.key_ld_hl_sp_e]; rfl)
  have hsp : (past s 2).sp = s.sp := rfl
  rw [State.addSP, hsp, hsum] at hadd
  rw [State.loadHLSP, hsp, hsum] at hload
  exact ⟨hadd, hload⟩

end Sys2Proof.Machine
end

section
/-! PROOF. The statements about the rotates, shifts and single bits (43_rotate_bit.md R240 to R266): the model's operations on bits are
the spec's arithmetic on numbers, and an instruction is one of them past its fetch. -/

namespace Sys2Proof.Machine
open Sys2Proof.Claims

/-! ### Bitwise operations as numbers -/

section
variable {w : Nat} (x y : BitVec w)

/-- What a mask clears is what it has in common with the vector. -/
theorem toNat_and_not : (x &&& ~~~y).toNat = x.toNat - (x &&& y).toNat := by
  have hdisjoint : (x &&& ~~~y) &&& (x &&& y) = 0#w := by ext i; cases h : y[i] <;> simp [h]
  have hunion : (x &&& ~~~y) ||| (x &&& y) = x := by ext i; cases h : y[i] <;> simp [h]
  have hsum := BitVec.toNat_add_of_and_eq_zero hdisjoint
  rw [BitVec.add_eq_or_of_and_eq_zero _ _ hdisjoint, hunion] at hsum
  omega

/-- What a mask sets is what it does not have in common with the vector. -/
theorem toNat_or_eq_add_sub : (x ||| y).toNat = x.toNat + (y.toNat - (y &&& x).toNat) := by
  have hdisjoint : x &&& (y &&& ~~~x) = 0#w := by ext i; cases h : x[i] <;> simp [h]
  have hunion : x ||| (y &&& ~~~x) = x ||| y := by ext i; cases h : x[i] <;> simp [h]
  rw [← hunion, ← BitVec.add_eq_or_of_and_eq_zero _ _ hdisjoint, BitVec.toNat_add_of_and_eq_zero hdisjoint, toNat_and_not]

/-- An OR of a multiple of a power of two and a number below it has no carries: it is their sum. -/
theorem toNat_or_of_dvd_of_lt {x y : BitVec w} (i : Nat) (hx : 2 ^ i ∣ x.toNat) (hy : y.toNat < 2 ^ i) :
    (x ||| y).toNat = x.toNat + y.toNat := by
  obtain ⟨a, ha⟩ := hx
  rw [BitVec.toNat_or, ha, Nat.two_pow_add_eq_or_of_lt hy]

end

section
variable (v : Byte)

theorem byte_toNat : byte v.toNat = v := by rw [byte, BitVec.ofNat_toNat, BitVec.setWidth_eq]

theorem beq_zero_eq_toNat : (v == 0) = (v.toNat == 0) := by
  rw [Bool.eq_iff_iff, beq_iff_eq, beq_iff_eq, ← BitVec.toNat_inj]
  rfl

theorem bit_getLsbD (b : Nat) : bit (v.getLsbD b) = v.toNat / 2 ^ b % 2 := by
  rw [bit_eq_toNat]
  exact Nat.toNat_testBit v.toNat b

theorem bit_getLsbD_zero : bit (v.getLsbD 0) = v.toNat % 2 := by
  rw [bit_getLsbD, pow_zero, Nat.div_one]

theorem bit_getLsbD_seven : bit (v.getLsbD 7) = v.toNat / 128 := by
  have := v.isLt
  rw [bit_getLsbD]
  omega

theorem eq_bit_beq_one (x : Bool) : x = (bit x == 1) := by cases x <;> rfl

theorem not_eq_bit_beq_zero (x : Bool) : (!x) = (bit x == 0) := by cases x <;> rfl

theorem bit_le_one (x : Bool) : bit x ≤ 1 := by cases x <;> decide

/-! ### The shift functions in numbers (R244) -/

theorem toNat_shiftLeft_one : (v <<< 1).toNat = 2 * v.toNat % 256 := by
  rw [BitVec.toNat_shiftLeft, Nat.shiftLeft_eq, mul_comm]

theorem toNat_shiftRight_one : (v >>> 1).toNat = v.toNat / 2 := by
  rw [BitVec.toNat_ushiftRight, Nat.shiftRight_eq_div_pow, pow_one]

theorem toNat_carryByte_shiftLeft_seven (cin : Bool) : (carryByte cin <<< 7).toNat = 128 * bit cin := by cases cin <;> rfl

/-- A carry shifted in at bit 0. -/
theorem toNat_shiftLeft_or_carryByte (cin : Bool) : (v <<< 1 ||| carryByte cin).toNat = 2 * v.toNat % 256 + bit cin := by
  have hcin := bit_le_one cin
  have hv := toNat_shiftLeft_one v
  rw [toNat_or_of_dvd_of_lt 1 (by omega) (by rw [carryByte_toNat]; omega), hv, carryByte_toNat]

/-- A carry shifted in at bit 7. -/
theorem toNat_shiftRight_or_carryByte (cin : Bool) : (v >>> 1 ||| carryByte cin <<< 7).toNat = v.toNat / 2 + 128 * bit cin := by
  have hv := toNat_shiftRight_one v
  have hcin := toNat_carryByte_shiftLeft_seven cin
  have := v.isLt
  rw [BitVec.or_comm, toNat_or_of_dvd_of_lt 7 (by omega) (by omega), hv, hcin, add_comm]

/-- SRA shifts bit 7 in again. -/
theorem and_0x80_eq_carryByte : v &&& (0x80 : Byte) = carryByte (v.getLsbD 7) <<< 7 := by
  have hand : v &&& (0x80 : Byte) = if v.getLsbD 7 then BitVec.twoPow 8 7 else 0 := BitVec.and_twoPow v 7
  rw [hand]
  cases v.getLsbD 7 <;> rfl

/-- The low digit moves up without loss. -/
theorem toNat_swap : ((v &&& (0x0F : Byte)) <<< 4 ||| v >>> 4).toNat = 16 * (v.toNat % 16) + v.toNat / 16 := by
  have hdigit : (v &&& (0x0F : Byte)).toNat = v.toNat % 16 := Nat.and_two_pow_sub_one_eq_mod v.toNat 4
  have hhigh : ((v &&& (0x0F : Byte)) <<< 4).toNat = 16 * (v.toNat % 16) := by
    rw [BitVec.toNat_shiftLeft, Nat.shiftLeft_eq, hdigit]
    omega
  have hlow : (v >>> 4).toNat = v.toNat / 16 := by rw [BitVec.toNat_ushiftRight, Nat.shiftRight_eq_div_pow]
  have := v.isLt
  rw [toNat_or_of_dvd_of_lt 4 (by omega) (by omega), hhigh, hlow]

theorem shift8_fst_toNat (op : RotOp) (cin : Bool) : (shift8 op v cin).1.toNat = (shifted op v.toNat (bit cin)).1 := by
  cases op with
  | rlc => exact (toNat_shiftLeft_or_carryByte v _).trans (by rw [bit_getLsbD_seven]; rfl)
  | rrc => exact (toNat_shiftRight_or_carryByte v _).trans (by rw [bit_getLsbD_zero]; rfl)
  | rl => exact toNat_shiftLeft_or_carryByte v cin
  | rr => exact toNat_shiftRight_or_carryByte v cin
  | sla => exact toNat_shiftLeft_one v
  | sra =>
    rw [shift8, and_0x80_eq_carryByte, toNat_shiftRight_or_carryByte, bit_getLsbD_seven]
    rfl
  | swap => exact toNat_swap v
  | srl => exact toNat_shiftRight_one v

/-- Left shifts move bit 7 out and right shifts bit 0. -/
theorem shift8_snd (op : RotOp) (cin : Bool) : (shift8 op v cin).2 = (shifted op v.toNat (bit cin)).2 := by
  have hleft : v.getLsbD 7 = (v.toNat / 128 == 1) := by rw [← bit_getLsbD_seven, ← eq_bit_beq_one]
  have hright : v.getLsbD 0 = (v.toNat % 2 == 1) := by rw [← bit_getLsbD_zero, ← eq_bit_beq_one]
  cases op with
  | rlc | rl | sla => exact hleft
  | rrc | rr | sra | srl => exact hright
  | swap => rfl

theorem shift8_eq (op : RotOp) (cin : Bool) :
    shift8 op v cin = (byte (shifted op v.toNat (bit cin)).1, (shifted op v.toNat (bit cin)).2) := by
  rw [← shift8_fst_toNat, ← shift8_snd, byte_toNat]

/-- The byte is 0 exactly if its number is. -/
theorem shiftFlags_shift8 (op : RotOp) (cin : Bool) :
    shiftFlags (shift8 op v cin) =
      let x := shifted op v.toNat (bit cin)
      { z := x.1 == 0, n := false, h := false, c := x.2 } := by
  rw [shiftFlags, beq_zero_eq_toNat, shift8_fst_toNat, shift8_snd]

/-- The digits of a byte swapped twice are as they were (R259). -/
theorem shifted_swap_swap (cin cin' : Nat) :
    shifted .swap (byte (shifted .swap v.toNat cin).1).toNat cin' = (v.toNat, false) := by
  have := v.isLt
  have hlt : 16 * (v.toNat % 16) + v.toNat / 16 < 256 := by omega
  simp only [shifted, byte, BitVec.toNat_ofNat, Nat.reducePow, Nat.mod_eq_of_lt hlt, Prod.mk.injEq, and_true]
  omega

end

/-! ### The rotate and shift instructions -/

/-- Settles O21: each rotates A by the shift function of its name, and clears Z. -/
theorem accumulatorRotates : Obligations.AccumulatorRotates := by
  intro s result
  have hop (op : RotOp) : (past s 1).rotA op = result op := by
    rw [State.rotA, shift8_eq]
    rfl
  simp only [← hop]
  exact ⟨executes_of_op (·.rotA .rlc) rfl rfl, executes_of_op (·.rotA .rrc) rfl rfl, executes_of_op (·.rotA .rl) rfl rfl,
    executes_of_op (·.rotA .rr) rfl rfl⟩

/-- R244, on a register or (HL). -/
theorem executes_rotLoc (op : RotOp) (l : Loc) (s : State) :
    let x := shifted op (s.readLoc l).toNat (bit s.flags.c)
    Executes (.rotLoc op l) [0xCB, byte (8 * rotCode op + locCode l)] (byLoc l 8 16) s
      { (past s 2).writeLoc l (byte x.1) with flags := { z := x.1 == 0, n := false, h := false, c := x.2 } } := by
  have h : Executes (.rotLoc op l) [0xCB, byte (8 * rotCode op + locCode l)] (byLoc l 8 16) s ((past s 2).rot op l) :=
    executes_of_op (·.rot op l) (by cases op <;> rcases l with ⟨⟨⟩⟩ | _ <;> rfl) (exec_rotLoc op l s)
  rw [State.rot, State.putWithFlags, shiftFlags_shift8, shift8_eq] at h
  exact h

/-- Settles O22: the register forms of R244. -/
theorem rotateAndShiftRegister : Obligations.RotateAndShiftRegister := fun op r s => executes_rotLoc op (.reg r) s

/-- Settles O23: the (HL) form of R244 stores once, and the flags are not of memory. -/
theorem rotateAndShiftMemory : Obligations.RotateAndShiftMemory := fun op s =>
  ⟨executes_rotLoc op .atHL s, onlyAt_of_past ((past s 2).memWrite_onlyAt s.hl _)⟩

/-- SWAP r by what the registers and the flags then hold. -/
theorem exec_swap_reg (r : Reg8) (s : State) :
    ∃ t, exec (.rotLoc .swap (.reg r)) s = .next t ∧
      (∀ q, t.getReg q = if q = r then byte (shifted .swap (s.getReg r).toNat 0).1 else s.getReg q) ∧
      t.flags = { z := (shifted .swap (s.getReg r).toNat 0).1 == 0, n := false, h := false, c := false } := by
  obtain ⟨-, hexec⟩ := executes_rotLoc .swap (.reg r) s
  exact ⟨_, hexec, fun q => State.getReg_setReg (past s 2) r q _, rfl⟩

/-- Settles O24: the second SWAP writes the byte the register held before the first. -/
theorem swapTwiceRestores : Obligations.SwapTwiceRestores := by
  intro r s
  obtain ⟨t, hfirst, hreg, -⟩ := exec_swap_reg r s
  obtain ⟨u, hsecond, hreg', hflags⟩ := exec_swap_reg r t
  rw [hreg r, if_pos rfl, shifted_swap_swap] at hreg' hflags
  refine ⟨t, u, hfirst, hsecond, fun q => ?_, ?_, by rw [hflags], by rw [hflags], by rw [hflags]⟩
  · rw [hreg', hreg, byte_toNat]
    split
    · next hq => rw [hq]
    · rfl
  · rw [hflags, ← beq_zero_eq_toNat]
    rfl

/-! ### The single bits -/

theorem toNat_bitMask (b : Fin 8) : (bitMask b).toNat = 2 ^ b.val := by
  revert b
  decide

theorem toNat_and_bitMask (v : Byte) (b : Fin 8) : (v &&& bitMask b).toNat = v.toNat / 2 ^ b.val % 2 * 2 ^ b.val := by
  rw [BitVec.toNat_and, toNat_bitMask, Nat.and_two_pow, Nat.toNat_testBit]

/-- RES takes the bit's weight away if the bit is set (R263). -/
theorem and_not_bitMask_eq (v : Byte) (b : Fin 8) :
    v &&& ~~~bitMask b = byte (v.toNat - v.toNat / 2 ^ b.val % 2 * 2 ^ b.val) := by
  rw [← toNat_and_bitMask, ← toNat_and_not, byte_toNat]

/-- SET adds the bit's weight if the bit is clear (R265). -/
theorem or_bitMask_eq (v : Byte) (b : Fin 8) :
    v ||| bitMask b = byte (v.toNat + (1 - v.toNat / 2 ^ b.val % 2) * 2 ^ b.val) := by
  rw [Nat.sub_mul, one_mul, ← toNat_and_bitMask, ← toNat_bitMask, BitVec.and_comm, ← toNat_or_eq_add_sub, byte_toNat]

/-- Settles O25: the tested bit is the quotient's by its weight. -/
theorem testBit : Obligations.TestBit := by
  intro b l s
  have h : Executes (.bitLoc b l) [0xCB, byte (0x40 + 8 * b.val + locCode l)] (byLoc l 8 12) s ((past s 2).bitTest b l) :=
    executes_of_op (·.bitTest b l) (by fin_cases b <;> rcases l with ⟨⟨⟩⟩ | _ <;> rfl) (exec_bitLoc b l s)
  rw [State.bitTest, bitFlags, not_eq_bit_beq_zero, bit_getLsbD] at h
  exact h

/-- Settles O26: each writes the operand back with the mask of its bit cleared or set. -/
theorem resetAndSetBit : Obligations.ResetAndSetBit := by
  intro b l s
  have hres : Executes (.resLoc b l) [0xCB, byte (0x80 + 8 * b.val + locCode l)] (byLoc l 8 16) s ((past s 2).bitReset b l) :=
    executes_of_op (·.bitReset b l) (by fin_cases b <;> rcases l with ⟨⟨⟩⟩ | _ <;> rfl) (exec_resLoc b l s)
  have hset : Executes (.setLoc b l) [0xCB, byte (0xC0 + 8 * b.val + locCode l)] (byLoc l 8 16) s ((past s 2).bitSet b l) :=
    executes_of_op (·.bitSet b l) (by fin_cases b <;> rcases l with ⟨⟨⟩⟩ | _ <;> rfl) (exec_setLoc b l s)
  rw [State.bitReset, and_not_bitMask_eq] at hres
  rw [State.bitSet, or_bitMask_eq] at hset
  exact ⟨hres, hset⟩

end Sys2Proof.Machine
end

section
/-! PROOF. The statements about the control transfers (44_control.md R270 to R281): a jump, call, return or restart is one operation past
its fetch, and a conditional one is that operation where its condition holds and the fetch alone where it does not. -/

namespace Sys2Proof.Machine
open Sys2Proof.Claims

/-! ### A conditional instruction as one operation past its fetch -/

theorem State.cond_eq_holdsCond (s : State) (cc : Cond) : s.cond cc = holdsCond cc s.flags := by
  cases cc with
  | nz => exact (beq_false _).symm
  | z => exact (beq_true _).symm
  | nc => exact (beq_false _).symm
  | c => exact (beq_true _).symm

/-- The conditional form of `executes_of_op`. The fetch writes no flag, so the condition is that of `s`. -/
theorem executesCond_of_op (op : State → State) {i : Instr} {bytes : List Byte} {k kNot len : Nat} {cc : Cond} {s : State}
    (henc : encode i = bytes) (hexec : exec i s = ((s.advance len).whenCond cc op).retireCond i.key (s.cond cc) k kNot)
    (hpos : 0 < len := by decide) :
    ExecutesCond i bytes (holdsCond cc s.flags) k kNot s (if holdsCond cc s.flags then op (past s len) else past s len) := by
  rw [s.advance_eq_past hpos, State.whenCond, State.cond_eq_holdsCond, State.cond_eq_holdsCond] at hexec
  exact ⟨henc, hexec.trans (State.retire_eq rfl (params_of_exec_retire hexec))⟩

/-! ### The jumps -/

/-- Settles O27: each writes PC alone. -/
theorem jumps : Obligations.Jumps := by
  intro cc nn e s far
  have hfar : (past s 2).jumpRel e = { past s 2 with pc := far } := by rw [State.jumpRel, add_sext16_eq_ofInt]
  rw [← hfar]
  refine ⟨?_, ?_, ?_, ?_, ?_⟩
  · exact executes_of_op (·.jump nn) rfl (by rw [Instr.key_jp_nn]; rfl)
  · exact executesCond_of_op (·.jump nn) (by cases cc <;> rfl) (exec_jpCond cc nn s)
  · exact executes_of_op (·.jump s.hl) rfl rfl
  · exact executes_of_op (·.jumpRel e) rfl (by rw [Instr.key_jr_e]; rfl)
  · exact executesCond_of_op (·.jumpRel e) (by cases cc <;> rfl) (exec_jrCond cc e s)

/-! ### The calls and restarts -/

theorem State.call_eq_called (u : State) (target : Word) : u.call target = called u target := by
  rw [State.call, State.push16_eq, called]

/-- A call is a push of the return address, then a jump (R276). -/
theorem State.call_eq_jump (u : State) (target : Word) : u.call target = (u.push16 u.pc).jump target := rfl

theorem executes_call_nn (nn : Word) (s : State) :
    Executes (.call_nn nn) [0xCD, loByte nn, hiByte nn] 24 s ((past s 3).call nn) :=
  executes_of_op (·.call nn) rfl (by rw [Instr.key_call_nn]; rfl)

/-- Settles O28: each is a call past the fetch, which stores the return address alone. -/
theorem callsAndRestarts : Obligations.CallsAndRestarts := by
  intro cc nn y s
  simp only [← State.call_eq_called]
  refine ⟨executes_call_nn nn s, ?_, ?_, ?_, ?_⟩
  · exact onlyAt_of_past ((past s 3).call_onlyAt nn)
  · exact executesCond_of_op (·.call nn) (by cases cc <;> rfl) (exec_callCond cc nn s)
  · exact executes_of_op (·.call (BitVec.ofNat 16 (8 * y.val))) (by fin_cases y <;> rfl) (exec_rst y s)
  · exact onlyAt_of_past ((past s 1).call_onlyAt _)

/-! ### The returns -/

theorem executes_ret (s : State) : Executes .ret [0xC9] 16 s (past s 1).ret := executes_of_op (·.ret) rfl rfl

/-- Settles O29: each is a return past the fetch, and RETI then writes IME. -/
theorem returns : Obligations.Returns := by
  intro cc s
  refine ⟨executes_ret s, ?_, ?_⟩
  · exact executesCond_of_op (·.ret) (by cases cc <;> rfl) (exec_retCond cc s)
  · exact executes_of_op (·.returnFromInterrupt) rfl rfl

/-! ### A return after a call -/

/-- Neither a jump nor the reported count nor the fetch touches the stack. -/
theorem State.ret_after_jump (u : State) (target : Word) (k len : Nat) :
    (past ((u.jump target).report k) len).ret.sp = u.dropWord.sp ∧ (past ((u.jump target).report k) len).ret.pc = u.popValue :=
  ⟨rfl, rfl⟩

/-- Settles O30: CALL is a push and a jump, and RET pops what was pushed. -/
theorem callThenReturnRestores : Obligations.CallThenReturnRestores := by
  intro nn s
  obtain ⟨hsp, hvalue⟩ := popAfterPush (past s 3) (past s 3).pc
  obtain ⟨-, hcall⟩ := executes_call_nn nn s
  rw [State.call_eq_jump] at hcall
  -- the state between the push and the jump is any from which a pop gives the return address
  generalize (past s 3).push16 (past s 3).pc = pushed at hsp hvalue hcall
  generalize cyclesFor s.params (Instr.call_nn nn).key true 24 = count at hcall
  obtain ⟨hretSP, hretPC⟩ := pushed.ret_after_jump nn count 1
  obtain ⟨-, hret⟩ := executes_ret ((pushed.jump nn).report count)
  refine ⟨_, _, hcall, rfl, hret, hretSP.trans hsp, fun hflat hhigh hlow => ?_⟩
  obtain ⟨hpop, -, -⟩ := hvalue hflat hhigh hlow
  exact hretPC.trans hpop

end Sys2Proof.Machine
end

section
/-! PROOF. The statements about NOP, DI, EI, HALT, STOP and the illegal opcodes (45_system.md R300 to R305), and about the steps of a
halted and of a stopped core (R303, R320). -/

namespace Sys2Proof.Machine
open Sys2Proof.Claims

/-! ### The system instructions -/

/-- Settles O31: NOP is its fetch alone, DI and EI write IME past it. -/
theorem nopDiEi : Obligations.NopDiEi := by
  intro s
  refine ⟨?_, ?_, ?_⟩
  · exact executes_of_op id rfl rfl
  · exact executes_of_op (·.disableInterrupts) rfl rfl
  · exact executes_of_op (·.enableInterrupts) rfl rfl

/-- A byte cut to five bits and widened again has lost its upper three. -/
theorem setWidth_five_setWidth_eight (v : Byte) : (v.setWidth 5).setWidth 8 = v &&& 0x1F := by
  revert v
  decide

/-- The five pending bits as a byte (60_exceptions.md R331). -/
theorem State.pending_setWidth (s : State) : s.pending.setWidth 8 = s.ie &&& s.iflag.setWidth 8 &&& 0x1F := by
  rw [State.pending, BitVec.setWidth_and, setWidth_five_setWidth_eight, BitVec.and_assoc, BitVec.and_comm 0x1F, ← BitVec.and_assoc]

theorem State.pending_eq_zero_iff (s : State) : s.pending = 0 ↔ s.ie &&& s.iflag.setWidth 8 &&& 0x1F = 0 := by
  rw [← s.pending_setWidth, ← BitVec.toNat_inj, ← BitVec.toNat_inj, BitVec.toNat_setWidth_of_le (by decide)]
  rfl

/-- Settles O32: the fetch leaves IME, IE and IF, which say whether HALT halts. -/
theorem haltOrHaltBug : Obligations.HaltOrHaltBug := by
  intro s
  have h : Executes .halt [0x76] 4 s (past s 1).halt := executes_of_op (·.halt) rfl rfl
  simp only [State.halt, ne_eq, State.pending_eq_zero_iff] at h
  exact h

/-- Settles O33: the ignored byte is fetched and no more, and of memory STOP clears DIV alone. -/
theorem stopClearsDivider : Obligations.StopClearsDivider := by
  intro x s
  constructor
  · exact executes_of_op (·.stop) rfl rfl
  · exact onlyAt_of_past (past s 2).stop_onlyAt

/-! ### The illegal opcodes -/

/-- An illegal opcode's row number is its byte. -/
theorem ofNat_key_illegal (b : IllegalByte) : BitVec.ofNat 8 (Instr.illegal b).key = illegalByte b := by
  cases b <;> rfl

/-- Settles O34: the fault is raised past the fetch, with the PC before it. -/
theorem illegalOpcodeLocks : Obligations.IllegalOpcodeLocks := by
  intro b s
  have hexec := exec_illegal b s
  rw [ofNat_key_illegal, s.advance_eq_past Nat.one_pos] at hexec
  refine ⟨by cases b <;> rfl, hexec, fun t ht => ?_⟩
  cases hexec.symm.trans ht
  rfl

/-! ### The steps of a halted and of a stopped core -/

theorem phase_idle {s : State} (hlocked : s.locked = false) (hstopped : s.stopped = false) (hhalted : s.halted = true)
    (hpending : s.pending = 0) : s.phase = .idle := by
  have hwake : s.wake = s := if_neg fun h => h.2 hpending
  rw [phase_of_running s hlocked hstopped, State.dispatchSource_eq_none fun _ => hpending, hwake, hhalted]
  rfl

/-- Settles O47: the first core is idle and the second stopped, whatever is pending. -/
theorem haltedAndStoppedSteps : Obligations.HaltedAndStoppedSteps := by
  constructor
  · intro s hlocked hstopped hhalted hpending
    rw [step, phase_idle hlocked hstopped hhalted (s.pending_eq_zero_iff.2 hpending)]
    rfl
  · intro s hlocked hstopped
    rw [step, phase_stopped s hlocked hstopped]
    rfl

end Sys2Proof.Machine
end

section
/-! PROOF. The statements about the timer (60_exceptions.md R350 to R353): one turn of the countdown's loop as a function on states, the
closed form of the model as the state the loop ends in, and the stores to the block registers. -/

namespace Sys2Proof.Machine
open Sys2Proof.Claims

/-! ### Ticks beside the rest of the state -/

theorem State.timaTicks_eq_iterate (n : Nat) : State.timaTicks n = State.timaTick^[n] := by
  funext s
  induction n with
  | zero => rfl
  | succ n ih => rw [State.timaTicks, ih, Function.iterate_succ_apply']

/-- A tick first or last. -/
theorem State.timaTicks_succ' (n : Nat) (s : State) : s.timaTicks (n + 1) = s.timaTick.timaTicks n := by
  rw [State.timaTicks_eq_iterate, State.timaTicks_eq_iterate, Function.iterate_succ_apply]

/-- The countdown written, and nothing else. -/
def State.setCountdown (s : State) (c : Int) : State := { s with countdown := c }

section
variable (s : State)

@[simp] theorem State.setCountdown_countdown (c : Int) : (s.setCountdown c).countdown = c := rfl
@[simp] theorem State.setCountdown_tac (c : Int) : (s.setCountdown c).tac = s.tac := rfl
@[simp] theorem State.setCountdown_params (c : Int) : (s.setCountdown c).params = s.params := rfl
@[simp] theorem State.setCountdown_setCountdown (c c' : Int) : (s.setCountdown c).setCountdown c' = s.setCountdown c' := rfl

/-- A tick neither reads nor writes the countdown. -/
theorem State.timaTick_setCountdown (c : Int) : (s.setCountdown c).timaTick = s.timaTick.setCountdown c := by
  unfold State.timaTick State.setCountdown
  split <;> rfl

/-- A tick neither reads nor writes the divider. -/
theorem State.timaTick_advanceDivider (k : Nat) : (s.advanceDivider k).timaTick = s.timaTick.advanceDivider k := by
  unfold State.timaTick State.advanceDivider
  split <;> rfl

theorem State.timaTicks_advanceDivider (n k : Nat) : (s.advanceDivider k).timaTicks n = (s.timaTicks n).advanceDivider k := by
  have hcomm : Function.Commute State.timaTick (State.advanceDivider · k) := fun s => s.timaTick_advanceDivider k
  rw [State.timaTicks_eq_iterate]
  exact hcomm.iterate_left n s

end

/-! ### The countdown's loop -/

/-- The period TAC selects, in the statement's words (10_state.md R53). -/
theorem period_clockSelect (tac : BitVec 3) : (period (clockSelect tac) : Int) = periodOf (tac.toNat % 4) := by
  revert tac
  decide

theorem periodOf_pos (tac : BitVec 3) : 0 < periodOf (tac.toNat % 4) := by
  rw [← period_clockSelect]
  exact_mod_cast period_pos _

/-- One turn of the loop under `carry`: a period is added, and TIMA ticks (R350). -/
def State.turn (u : State) : State := ticked (u.setCountdown (u.countdown + periodOf (u.tac.toNat % 4)))

/-- What the model makes of the countdown once the cycles are taken off: the loop in closed form. -/
def State.settled (u : State) : State :=
  (u.setCountdown (reloaded u.params.overshoot u.countdown (period (clockSelect u.tac)))).timaTicks
    (expiries u.params.overshoot u.countdown (period (clockSelect u.tac)))

theorem State.advanceCountdown_of_enabled {s : State} (k : Nat) (h : timerEnabled s.tac = true) :
    s.advanceCountdown k = (s.setCountdown (s.countdown - k)).settled := if_pos h

theorem State.advanceCountdown_of_disabled {s : State} (k : Nat) (h : timerEnabled s.tac = false) : s.advanceCountdown k = s :=
  if_neg (by simp [h])

section
variable {u : State}

theorem State.turn_eq (u : State) : u.turn = u.timaTick.setCountdown (u.countdown + periodOf (u.tac.toNat % 4)) :=
  u.timaTick_setCountdown _

@[simp] theorem State.turn_countdown (u : State) : u.turn.countdown = u.countdown + periodOf (u.tac.toNat % 4) := by
  simp [State.turn_eq]

@[simp] theorem State.turn_tac (u : State) : u.turn.tac = u.tac := by simp [State.turn_eq]

@[simp] theorem State.turn_params (u : State) : u.turn.params = u.params := by simp [State.turn_eq]

theorem State.turn_setCountdown (u : State) (c : Int) : u.turn.setCountdown c = (u.setCountdown c).timaTick := by
  rw [State.turn_eq, State.setCountdown_setCountdown, State.timaTick_setCountdown]

/-- A turn may be made before cycles are taken off or after. -/
theorem State.turn_setCountdown_sub (u : State) (c : Int) :
    (u.setCountdown (u.countdown - c)).turn = u.turn.setCountdown (u.turn.countdown - c) := by
  simp [State.turn_eq, State.timaTick_setCountdown, sub_add_eq_add_sub]

/-- Induction along the loop: it ends, since each turn adds a period. -/
theorem State.turn_induction {P : State → Prop} (done : ∀ u : State, 0 < u.countdown → P u)
    (again : ∀ u : State, u.countdown ≤ 0 → P u.turn → P u) (u : State) : P u := by
  by_cases h : 0 < u.countdown
  · exact done u h
  · exact again u (not_lt.1 h) (State.turn_induction done again u.turn)
termination_by (1 - u.countdown).toNat
decreasing_by
  have := periodOf_pos u.tac
  rw [State.turn_countdown]
  omega

theorem State.settled_of_pos (h : 0 < u.countdown) : u.settled = u := by
  rw [State.settled, expiries_of_pos _ _ _ h, reloaded_of_pos _ _ _ h]
  rfl

theorem State.settled_of_carry (hcarry : u.params.overshoot = .carry) (h : u.countdown ≤ 0) : u.settled = u.turn.settled := by
  have hp : 0 < period (clockSelect u.tac) := period_pos _
  rw [State.settled, State.settled, State.turn_params, State.turn_tac, State.turn_countdown, hcarry, ← period_clockSelect,
    expiries_carry_step _ _ hp h, reloaded_carry_step _ _ hp h, State.timaTicks_succ', State.turn_setCountdown]

theorem State.settled_of_discard (hdiscard : u.params.overshoot = .discard) (h : u.countdown ≤ 0) :
    u.settled = ticked (u.setCountdown (periodOf (u.tac.toNat % 4))) := by
  rw [State.settled, hdiscard, reloaded, expiries, if_pos h, if_pos h, period_clockSelect]
  rfl

theorem State.settled_advanceDivider (u : State) (k : Nat) : (u.advanceDivider k).settled = u.settled.advanceDivider k := by
  rw [State.settled, State.settled, ← State.timaTicks_advanceDivider]
  rfl

theorem carryLoop_settled (u : State) : u.params.overshoot = .carry → CarryLoop u u.settled := by
  induction u using State.turn_induction with
  | done u h =>
    intro _
    rw [State.settled_of_pos h]
    exact .done u h
  | again u h ih =>
    intro hcarry
    rw [State.settled_of_carry hcarry h]
    exact .again u _ h (ih (by simpa using hcarry))

/-- Under `carry` the loop may also run before cycles are taken off, and the loop after that ends in the same state. -/
theorem State.settled_sub (k : Nat) (u : State) : u.params.overshoot = .carry →
    (u.setCountdown (u.countdown - k)).settled = (u.settled.setCountdown (u.settled.countdown - k)).settled := by
  induction u using State.turn_induction with
  | done u h =>
    intro _
    rw [State.settled_of_pos h]
  | again u h ih =>
    intro hcarry
    have hexpired : (u.setCountdown (u.countdown - k)).countdown ≤ 0 := by
      rw [State.setCountdown_countdown]
      omega
    calc (u.setCountdown (u.countdown - k)).settled
      _ = (u.setCountdown (u.countdown - k)).turn.settled := State.settled_of_carry hcarry hexpired
      _ = (u.turn.setCountdown (u.turn.countdown - k)).settled := by rw [State.turn_setCountdown_sub]
      _ = (u.turn.settled.setCountdown (u.turn.settled.countdown - k)).settled := ih (by simpa using hcarry)
      _ = (u.settled.setCountdown (u.settled.countdown - k)).settled := by rw [← State.settled_of_carry hcarry h]

end

/-! ### TimerAdvance -/

/-- Settles O49: the divider is the statement's own, and the closed form is where the loop ends under either setting. -/
theorem timerAdvanceRunsTheLoop : Obligations.TimerAdvanceRunsTheLoop := by
  intro s k d c
  -- `d` is the state after the divider's part
  have htimer : s.timerAdvance k = d.advanceCountdown k := rfl
  rw [htimer]
  refine ⟨fun hoff => ?_, fun hon hcarry => ?_, fun hon hdiscard => ?_⟩
  · exact State.advanceCountdown_of_disabled k hoff
  · rw [State.advanceCountdown_of_enabled (s := d) k hon]
    exact carryLoop_settled (d.setCountdown c) hcarry
  · rw [State.advanceCountdown_of_enabled (s := d) k hon]
    split
    · next h => exact State.settled_of_pos h
    · next h => exact State.settled_of_discard (u := d.setCountdown c) hdiscard (not_lt.1 h)

theorem State.advanceDivider_add (s : State) (j k : Nat) : s.advanceDivider (j + k) = (s.advanceDivider j).advanceDivider k := by
  have hacc : (s.divAcc + (j + k)) % 256 = ((s.divAcc + j) % 256 + k) % 256 := by omega
  have hdiv : (s.divAcc + (j + k)) / 256 = (s.divAcc + j) / 256 + ((s.divAcc + j) % 256 + k) / 256 := by omega
  simp only [State.advanceDivider, hacc, hdiv, BitVec.ofNat_add, BitVec.add_assoc]

/-- The countdown and the divider do not touch each other. -/
theorem State.advanceCountdown_advanceDivider (s : State) (j k : Nat) :
    (s.advanceDivider k).advanceCountdown j = (s.advanceCountdown j).advanceDivider k := by
  cases hon : timerEnabled s.tac with
  | false =>
    rw [State.advanceCountdown_of_disabled (s := s) j hon]
    exact State.advanceCountdown_of_disabled j hon
  | true =>
    rw [State.advanceCountdown_of_enabled (s := s) j hon, State.advanceCountdown_of_enabled (s := s.advanceDivider k) j hon]
    exact State.settled_advanceDivider (s.setCountdown (s.countdown - j)) k

theorem State.advanceCountdown_add {s : State} (hcarry : s.params.overshoot = .carry) (j k : Nat) :
    s.advanceCountdown (j + k) = (s.advanceCountdown j).advanceCountdown k := by
  cases hon : timerEnabled s.tac with
  | false => simp only [State.advanceCountdown_of_disabled _ hon]
  | true =>
    have hon' : timerEnabled (s.advanceCountdown j).tac = true := by simpa using hon
    have hsub : s.countdown - ((j + k : Nat) : Int) = s.countdown - j - k := by omega
    rw [State.advanceCountdown_of_enabled k hon', State.advanceCountdown_of_enabled j hon,
      State.advanceCountdown_of_enabled _ hon, hsub]
    exact State.settled_sub k (s.setCountdown (s.countdown - j)) hcarry

/-- Settles O50: the divider's cycles and the countdown's each add up, and neither part touches the other. -/
theorem carryTimerAddsUp : Obligations.CarryTimerAddsUp := by
  intro s j k hcarry
  calc (s.advanceDivider (j + k)).advanceCountdown (j + k)
    _ = (((s.advanceDivider j).advanceDivider k).advanceCountdown j).advanceCountdown k := by
      rw [State.advanceDivider_add, State.advanceCountdown_add (by simpa using hcarry)]
    _ = (((s.advanceDivider j).advanceCountdown j).advanceDivider k).advanceCountdown k := by
      rw [State.advanceCountdown_advanceDivider]

/-! ### The block registers -/

theorem clockSelect_eq_iff (x y : BitVec 3) : clockSelect x = clockSelect y ↔ x.toNat % 4 = y.toNat % 4 := by
  revert x y
  decide

/-- The countdown after a store to TAC, by the two clock selects (R353). -/
theorem State.writeBlock_tac (s : State) (v : Byte) :
    s.writeBlock .tac v =
      { s with
        tac := BitVec.ofNat 3 v.toNat
        countdown := if v.toNat % 4 = s.tac.toNat % 4 then s.countdown else periodOf (v.toNat % 4) } := by
  have hsel : (v.setWidth 3).toNat % 4 = v.toNat % 4 := by
    rw [BitVec.toNat_setWidth]
    omega
  simp only [State.writeBlock, ne_eq, ite_not, clockSelect_eq_iff, period_clockSelect, hsel]
  rfl

/-- The unstored bits of TAC read as 1 (R74 of 20_memory.md). -/
theorem readBlock_tac_eq_byte (tac : BitVec 3) : 0xF8 ||| tac.setWidth 8 = byte (0xF8 + tac.toNat) := by
  revert tac
  decide

/-- The unstored bits of IF read as 1. -/
theorem readBlock_iflag_eq_byte (iflag : BitVec 5) : 0xE0 ||| iflag.setWidth 8 = byte (0xE0 + iflag.toNat) := by
  revert iflag
  decide

/-- Settles O37: the decoder selects the register, and TAC and IF alone hold fewer than eight bits. -/
theorem blockRegisterStores : Obligations.BlockRegisterStores := fun s v =>
  ⟨rfl, rfl, rfl, s.writeBlock_tac v, rfl, rfl, rfl, rfl, rfl, readBlock_tac_eq_byte s.tac, readBlock_iflag_eq_byte s.iflag, rfl⟩

end Sys2Proof.Machine
end

section
/-! PROOF. The statements about the step, the interrupts and the calls of the host (60_exceptions.md R320 to R345). -/

namespace Sys2Proof.Machine
open Sys2Proof.Claims

/-! ### Every step answers -/

theorem step_answers (s : State) : ∃ t, step s = .next t := by
  cases hphase : s.phase with
  | instruction =>
    obtain ⟨t, ht⟩ := exec_answers s.wake.fetchInstr s.wake
    exact ⟨_, step_of_instruction hphase ht⟩
  | _ =>
    rw [step, hphase]
    exact ⟨_, rfl⟩

/-- Settles O44: the kinds of step but one answer outright, and that one answers because every instruction does. -/
theorem everyStepAnswers : Obligations.EveryStepAnswers := fun s => ⟨step_answers s, fun i => exec_answers i s⟩

/-! ### The pending sources -/

/-- The pending bits one by one (R331). -/
theorem State.getLsbD_pending (s : State) (j : Nat) : s.pending.getLsbD j = pendingBit s j := by
  have hbound : s.iflag.getLsbD j = true → j < 5 := BitVec.lt_of_getLsbD
  rw [State.pending, BitVec.getLsbD_and, BitVec.getLsbD_setWidth, pendingBit]
  cases hflag : s.iflag.getLsbD j with
  | false => simp
  | true => simp [hbound hflag]

theorem State.pending_ne_zero (s : State) {j : Nat} (h : pendingBit s j = true) : s.pending ≠ 0 := by
  intro hzero
  rw [← s.getLsbD_pending, hzero] at h
  simp at h

/-- The source dispatched is the lowest pending one (R335). -/
theorem State.lowestPending_pending_iff (s : State) (i : Fin 5) :
    lowestPending s.pending = some i ↔ pendingBit s i.val = true ∧ ∀ j : Nat, j < i.val → pendingBit s j = false := by
  simp only [lowestPending_eq_some_iff, State.getLsbD_pending]

/-- Some source is dispatched if any is pending. -/
theorem State.exists_lowestPending_iff (s : State) :
    (∃ i, lowestPending s.pending = some i) ↔ ∃ j : Nat, j < 5 ∧ pendingBit s j = true := by
  constructor
  · rintro ⟨i, hi⟩
    obtain ⟨hpending, -⟩ := (s.lowestPending_pending_iff i).1 hi
    exact ⟨i.val, i.isLt, hpending⟩
  · rintro ⟨j, -, hpending⟩
    exact Option.ne_none_iff_exists'.1 fun hnone => s.pending_ne_zero hpending ((lowestPending_eq_none_iff _).1 hnone)

/-! ### The dispatch -/

theorem phase_dispatch_iff (s : State) (i : Fin 5) :
    s.phase = .dispatch i ↔ s.locked = false ∧ s.stopped = false ∧ s.ime = true ∧ lowestPending s.pending = some i := by
  constructor
  · intro h
    obtain ⟨hlocked, hstopped⟩ := running_of_phase s (by simp [h]) (by simp [h])
    exact ⟨hlocked, hstopped, source_of_dispatch s i h⟩
  · rintro ⟨hlocked, hstopped, hime, hsource⟩
    have hdispatch : s.dispatchSource = some i := (if_pos hime).trans hsource
    rw [phase_of_running s hlocked hstopped, hdispatch]

/-- Settles O46: a dispatch is due to exactly the states that have a lowest pending source, IME = 1, and are running or halted. -/
theorem dispatchExactlyWhenDue : Obligations.DispatchExactlyWhenDue := by
  intro s
  simp only [phase_dispatch_iff, exists_and_left, State.exists_lowestPending_iff, true_and]
  exact fun i ⟨_, _, _, hsource⟩ => (s.lowestPending_pending_iff i).1 hsource

theorem vectorOf_eq (i : Fin 5) : vectorOf i = BitVec.ofNat 16 (0x40 + 8 * i.val) := by
  revert i
  decide

theorem requestBit_eq (i : Fin 5) : 1#5 <<< i.val = BitVec.ofNat 5 (2 ^ i.val) := by
  revert i
  decide

/-- A dispatch is a call of the vector, with IME and the request cleared (R334). -/
theorem State.dispatch_eq_called (s : State) (i : Fin 5) :
    s.dispatch i =
      called { s with ime := false, iflag := s.iflag &&& ~~~BitVec.ofNat 5 (2 ^ i.val) } (BitVec.ofNat 16 (0x40 + 8 * i.val)) := by
  rw [← State.call_eq_called, ← vectorOf_eq, ← requestBit_eq]
  rfl

/-- Settles O45: the step is a dispatch, of the woken core since a source is pending. -/
theorem dispatchOfTheLowestPending : Obligations.DispatchOfTheLowestPending := by
  intro s i hlocked hstopped hime hpending hlowest
  have hphase : s.phase = .dispatch i :=
    (phase_dispatch_iff s i).2 ⟨hlocked, hstopped, hime, (s.lowestPending_pending_iff i).2 ⟨hpending, hlowest⟩⟩
  have hwake : s.wake = { s with halted := false } := State.wake_eq fun _ => s.pending_ne_zero hpending
  rw [step, hphase]
  simp only [State.dispatchStep, hwake, State.dispatch_eq_called]
  rfl

/-! ### The Locked step -/

/-- TimerAdvance writes DIV, TIMA, IF and the two internal counters alone. -/
theorem State.timerAdvance_outside_timer (s : State) (k : Nat) :
    { s.timerAdvance k with div := s.div, divAcc := s.divAcc, tima := s.tima, iflag := s.iflag, countdown := s.countdown } = s := by
  simp

/-- Settles O48: the step is the timer's advance, whatever is pending. -/
theorem lockedStepOnlyFeedsTheTimer : Obligations.LockedStepOnlyFeedsTheTimer := by
  intro s hlocked
  refine ⟨s.lockedStep, by rw [step, phase_locked s hlocked], rfl, ?_, ?_, ?_⟩
  · exact (State.timerAdvance_locked _ 4).trans hlocked
  · exact State.timerAdvance_fault _ 4
  · exact congrArg (fun t : State => { t with cycles := s.cycles }) (State.timerAdvance_outside_timer { s with cycles := 4 } 4)

/-! ### The calls of the host -/

/-- Settles O59: a request is a bit of IF, and a device's change of a byte of FLAT_RAM is a store there. -/
theorem hostCallEffects : Obligations.HostCallEffects := by
  intro s
  refine ⟨fun i => ?_, rfl, fun a v => ⟨s.busChange_eq_self a v, fun ha hflat => ?_, s.busEvent_eq⟩⟩
  · rw [← requestBit_eq]
    rfl
  · have hstore : s.hostCall (.busChange a v) = s.memWrite a v := s.busChange_eq_memWrite a v ha hflat
    rw [hstore]
    refine ⟨?_, s.memRead_memWrite_of_flatRam v hflat ha⟩
    rw [s.memWrite_of_bus a v ha]
    cases hbus : s.bus with
    | flatRam mem => exact ⟨_, rfl⟩
    | external data => simp [hbus, BusState.isFlatRam] at hflat

theorem State.memWrite_inv {s : State} (h : s.Inv) (a : Word) (v : Byte) : (s.memWrite a v).Inv := by
  obtain ⟨hwf, htimer, hmodes⟩ := h
  exact ⟨s.memWrite_wf a v hwf, s.memWrite_range a v htimer, by simpa [State.ModesExclusive] using hmodes⟩

theorem State.busChange_inv {s : State} (h : s.Inv) (a : Word) (v : Byte) : (s.busChange a v).Inv := by
  cases ha : blockReg? a with
  | some r =>
    rw [s.busChange_eq_self a v (.inl (by simp [ha]))]
    exact h
  | none =>
    cases hflat : s.bus.isFlatRam with
    | false =>
      rw [s.busChange_eq_self a v (.inr hflat)]
      exact h
    | true =>
      rw [s.busChange_eq_memWrite a v ha hflat]
      exact State.memWrite_inv h a v

theorem State.busEvent_inv {s : State} (h : s.Inv) (data : List Nat) : (s.busEvent data).Inv := by
  rw [State.busEvent_eq]
  split
  · exact h
  · exact ⟨rfl, h.2⟩

theorem State.stopWake_inv {s : State} (h : s.Inv) : s.stopWake.Inv := by
  obtain ⟨hwf, htimer, hhalted, hbug, hlocked, hfault⟩ := h
  exact ⟨hwf, htimer, fun hh => ⟨(hhalted hh).1, rfl⟩, fun hb => ⟨rfl, (hbug hb).2⟩,
    fun hl => ⟨(hlocked hl).1, (hlocked hl).2.1, rfl⟩, hfault⟩

/-- Settles O57: a reset has the invariant, which does not speak of IF, and the other calls keep it part by part. -/
theorem hostCallsKeepTheInvariant : Obligations.HostCallsKeepTheInvariant := by
  intro s call h
  cases call with
  | reset profile ime =>
    obtain ⟨hwf, -⟩ := h
    exact resetHasTheInvariant profile ime s.params s.bus hwf
  | requestInterrupt i => exact h
  | stopWake => exact State.stopWake_inv h
  | busChange a v => exact State.busChange_inv h a v
  | busEvent data => exact State.busEvent_inv h data

/-- A request adds its own source to the pending ones, if that is enabled (R336). -/
theorem pendingBit_requestInterrupt (s : State) (i : Fin 5) (j : Nat) :
    pendingBit (s.requestInterrupt i) j = (pendingBit s j || (s.ie.getLsbD j && decide (j = i.val))) := by
  have hbit : (1#5 <<< i.val).getLsbD j = decide (j = i.val) := by
    rw [← BitVec.twoPow_eq, BitVec.getLsbD_twoPow]
    simp [eq_comm, i.isLt]
  simp only [pendingBit, State.requestInterrupt, BitVec.getLsbD_or, hbit, Bool.and_or_distrib_left]

/-- Settles O60: with the request latched the source is the lowest pending, so the step is its dispatch. -/
theorem requestWakesAndDispatches : Obligations.RequestWakesAndDispatches := by
  intro s i hlocked hstopped hhalted hime henabled hlowest
  have hpending : pendingBit (s.requestInterrupt i) i.val = true := by simp [pendingBit_requestInterrupt, henabled]
  have hlowest' : ∀ j : Nat, j < i.val → pendingBit (s.requestInterrupt i) j = false := fun j hj => by
    simp [pendingBit_requestInterrupt, hlowest j hj, hj.ne]
  refine ⟨_, dispatchOfTheLowestPending (s.requestInterrupt i) i hlocked hstopped hime hpending hlowest', ?_⟩
  simp [called, State.requestInterrupt]

end Sys2Proof.Machine
end

section
/-! PROOF. The count every instruction reports (70_reset_and_hazards.md R383): its row of the CYCLES table is legal, and has the path
taken and the default count that the instruction's meaning retires with. -/

namespace Sys2Proof.Machine
open Sys2Proof.Claims

/-- The row `key` is of no illegal opcode, has no condition, and takes `k` cycles by the default table. -/
structure OnePath (key k : Nat) : Prop where
  legal : illegalKey key = false
  path : ∀ f, pathTaken key f = true
  count : defaultCycles key true = k

/-- The row `key` is of no illegal opcode, has the condition `cc`, and takes `k` cycles where it holds and `kNot` where not. -/
structure TwoPaths (key : Nat) (cc : Cond) (k kNot : Nat) : Prop where
  legal : illegalKey key = false
  path : ∀ s : State, pathTaken key s.flags = s.cond cc
  count : ∀ taken : Bool, defaultCycles key taken = if taken then k else kNot

/-- Every execution of `i` reports the count CYCLES gives its row and path. -/
def Counted (i : Instr) : Prop :=
  ∀ s t, exec i s = .next t →
    t.cycles =
      if illegalKey i.key then 4
      else cyclesFor s.params i.key (pathTaken i.key s.flags) (defaultCycles i.key (pathTaken i.key s.flags))

/-- What retires reports the count the table of the state before gives. -/
theorem cycles_of_retire {i : Instr} {s t u : State} {key : Nat} {taken : Bool} {k : Nat} (hexec : exec i s = u.retire key taken k)
    (h : exec i s = .next t) : t.cycles = cyclesFor s.params key taken k := by
  have hparams : u.params = s.params := params_of_exec_retire hexec
  rw [hexec, State.retire, hparams] at h
  cases h
  rfl

theorem counted_of_onePath {i : Instr} {k : Nat} (hexec : ∀ s, ∃ u : State, exec i s = u.retire i.key true k)
    (hrow : OnePath i.key k) : Counted i := by
  intro s t h
  obtain ⟨u, hu⟩ := hexec s
  rw [hrow.legal, hrow.path, hrow.count]
  exact cycles_of_retire hu h

theorem counted_of_twoPaths {i : Instr} {cc : Cond} {k kNot : Nat}
    (hexec : ∀ s, ∃ u : State, exec i s = u.retireCond i.key (s.cond cc) k kNot) (hrow : TwoPaths i.key cc k kNot) : Counted i := by
  intro s t h
  obtain ⟨u, hu⟩ := hexec s
  rw [hrow.legal, hrow.path, hrow.count]
  exact cycles_of_retire hu h

/-- An illegal opcode takes 4 cycles whatever the table (R320). -/
theorem counted_illegal (x : IllegalByte) : Counted (.illegal x) := by
  intro s t h
  have hkey : illegalKey (Instr.illegal x).key = true := by cases x <;> rfl
  rw [exec_illegal] at h
  cases h
  rw [hkey]
  rfl

/-- By family: an instruction retires with its own row, so what is left is to look the row up. -/
theorem counted (i : Instr) : Counted i := by
  induction i using instr_by_family with
  | fam_ldRegReg dst src =>
    exact counted_of_onePath (fun s => ⟨_, exec_ldRegReg dst src s⟩) (by cases dst <;> cases src <;> exact ⟨rfl, fun _ => rfl, rfl⟩)
  | fam_ldLocImm x n =>
    exact counted_of_onePath (fun s => ⟨_, exec_ldLocImm x n s⟩)
      (by rw [Instr.key_ldLocImm]; rcases x with ⟨⟨⟩⟩ | _ <;> exact ⟨rfl, fun _ => rfl, rfl⟩)
  | fam_ldRegAtHL dst =>
    exact counted_of_onePath (fun s => ⟨_, exec_ldRegAtHL dst s⟩) (by cases dst <;> exact ⟨rfl, fun _ => rfl, rfl⟩)
  | fam_ldAtHLReg src =>
    exact counted_of_onePath (fun s => ⟨_, exec_ldAtHLReg src s⟩) (by cases src <;> exact ⟨rfl, fun _ => rfl, rfl⟩)
  | fam_aluLoc op x =>
    exact counted_of_onePath (fun s => ⟨_, exec_aluLoc op x s⟩)
      (by cases op <;> rcases x with ⟨⟨⟩⟩ | _ <;> exact ⟨rfl, fun _ => rfl, rfl⟩)
  | fam_aluImm op n =>
    exact counted_of_onePath (fun s => ⟨_, exec_aluImm op n s⟩)
      (by rw [Instr.key_aluImm]; cases op <;> exact ⟨rfl, fun _ => rfl, rfl⟩)
  | fam_incLoc x =>
    exact counted_of_onePath (fun s => ⟨_, exec_incLoc x s⟩) (by rcases x with ⟨⟨⟩⟩ | _ <;> exact ⟨rfl, fun _ => rfl, rfl⟩)
  | fam_decLoc x =>
    exact counted_of_onePath (fun s => ⟨_, exec_decLoc x s⟩) (by rcases x with ⟨⟨⟩⟩ | _ <;> exact ⟨rfl, fun _ => rfl, rfl⟩)
  | fam_ldPairImm rr nn =>
    exact counted_of_onePath (fun s => ⟨_, exec_ldPairImm rr nn s⟩)
      (by rw [Instr.key_ldPairImm]; cases rr <;> exact ⟨rfl, fun _ => rfl, rfl⟩)
  | fam_addHLPair rr =>
    exact counted_of_onePath (fun s => ⟨_, exec_addHLPair rr s⟩) (by cases rr <;> exact ⟨rfl, fun _ => rfl, rfl⟩)
  | fam_incPair rr =>
    exact counted_of_onePath (fun s => ⟨_, exec_incPair rr s⟩) (by cases rr <;> exact ⟨rfl, fun _ => rfl, rfl⟩)
  | fam_decPair rr =>
    exact counted_of_onePath (fun s => ⟨_, exec_decPair rr s⟩) (by cases rr <;> exact ⟨rfl, fun _ => rfl, rfl⟩)
  | fam_pushPair rr =>
    exact counted_of_onePath (fun s => ⟨_, exec_pushPair rr s⟩) (by cases rr <;> exact ⟨rfl, fun _ => rfl, rfl⟩)
  | fam_popPair rr =>
    exact counted_of_onePath (fun s => ⟨_, exec_popPair rr s⟩) (by cases rr <;> exact ⟨rfl, fun _ => rfl, rfl⟩)
  | fam_jpCond cc nn =>
    exact counted_of_twoPaths (fun s => ⟨_, exec_jpCond cc nn s⟩)
      (by rw [Instr.key_jpCond]; cases cc <;> exact ⟨rfl, fun _ => rfl, fun _ => rfl⟩)
  | fam_jrCond cc e =>
    exact counted_of_twoPaths (fun s => ⟨_, exec_jrCond cc e s⟩)
      (by rw [Instr.key_jrCond]; cases cc <;> exact ⟨rfl, fun _ => rfl, fun _ => rfl⟩)
  | fam_callCond cc nn =>
    exact counted_of_twoPaths (fun s => ⟨_, exec_callCond cc nn s⟩)
      (by rw [Instr.key_callCond]; cases cc <;> exact ⟨rfl, fun _ => rfl, fun _ => rfl⟩)
  | fam_retCond cc =>
    exact counted_of_twoPaths (fun s => ⟨_, exec_retCond cc s⟩) (by cases cc <;> exact ⟨rfl, fun _ => rfl, fun _ => rfl⟩)
  | fam_rst y => exact counted_of_onePath (fun s => ⟨_, exec_rst y s⟩) (by fin_cases y <;> exact ⟨rfl, fun _ => rfl, rfl⟩)
  | fam_illegal x => exact counted_illegal x
  | fam_rotLoc op x =>
    exact counted_of_onePath (fun s => ⟨_, exec_rotLoc op x s⟩)
      (by cases op <;> rcases x with ⟨⟨⟩⟩ | _ <;> exact ⟨rfl, fun _ => rfl, rfl⟩)
  | fam_bitLoc y x =>
    exact counted_of_onePath (fun s => ⟨_, exec_bitLoc y x s⟩)
      (by fin_cases y <;> rcases x with ⟨⟨⟩⟩ | _ <;> exact ⟨rfl, fun _ => rfl, rfl⟩)
  | fam_resLoc y x =>
    exact counted_of_onePath (fun s => ⟨_, exec_resLoc y x s⟩)
      (by fin_cases y <;> rcases x with ⟨⟨⟩⟩ | _ <;> exact ⟨rfl, fun _ => rfl, rfl⟩)
  | fam_setLoc y x =>
    exact counted_of_onePath (fun s => ⟨_, exec_setLoc y x s⟩)
      (by fin_cases y <;> rcases x with ⟨⟨⟩⟩ | _ <;> exact ⟨rfl, fun _ => rfl, rfl⟩)
  | fam_stop x | fam_jr_e x | fam_ldh_atN_a x | fam_ldh_a_atN x | fam_add_sp_e x | fam_ld_hl_sp_e x | fam_ld_atNN_sp x | fam_jp_nn x
  | fam_call_nn x | fam_ld_atNN_a x | fam_ld_a_atNN x =>
    refine counted_of_onePath (fun _ => ⟨_, rfl⟩) ?_
    simp only [Instr.key_stop, Instr.key_jr_e, Instr.key_ldh_atN_a, Instr.key_ldh_a_atN, Instr.key_add_sp_e, Instr.key_ld_hl_sp_e,
      Instr.key_ld_atNN_sp, Instr.key_jp_nn, Instr.key_call_nn, Instr.key_ld_atNN_a, Instr.key_ld_a_atNN]
    exact ⟨rfl, fun _ => rfl, rfl⟩
  -- what is left has no operand and one path
  | _ => exact counted_of_onePath (fun _ => ⟨_, rfl⟩) ⟨rfl, fun _ => rfl, rfl⟩

/-- Settles O52: each instruction retires with its row, its path and the row's count. -/
theorem cycleCounts : Obligations.CycleCounts := counted

end Sys2Proof.Machine
end
